-- ==== Sys2Proof/Word.lean ====
section
/-! DEFINITION. The widths of the block's values (00_scope.md R7). -/

namespace Sys2Proof

/-- A stream byte or a checksum accumulator: 8 bits (R7). -/
abbrev Byte := BitVec 8

/-- A payload word or a command word: 32 bits (R7, R89). -/
abbrev Word := BitVec 32

/-- A wide value of the BFU, an operand port or the result register RES: 64 bits (R7). -/
abbrev Wide := BitVec 64

/-- A CRC-24Q value: 24 bits (R7). -/
abbrev Crc := BitVec 24

end Sys2Proof
end

