-- ==== Sys2Proof/Syntax.lean ====
section
/-! DEFINITION. The commands of the command port: one constructor for each row of
spec/opcode_table.json (30_encoding.md R90 to R101). -/

namespace Sys2Proof

/-- The container of SEXT, its CW bit (30_encoding.md R93). -/
inductive Container where
  /-- CW = 0: 32 bits. -/
  | c32
  /-- CW = 1: 64 bits. -/
  | c64
  deriving DecidableEq, Repr

/-- A command, its fields as the formats of R91 to R100 lay them out. The operands A and B are
values on the port and no part of the command word (R89). -/
inductive Instr where
  /-- NOP (R100). -/
  | nop
  /-- EXTRACT START, END (R91). -/
  | extract (first last : BitVec 5)
  /-- CONCAT LW (R92). -/
  | concat (lw : BitVec 7)
  /-- SEXT TW, CW (R93). -/
  | sext (tw : BitVec 7) (cw : Container)
  /-- SCALE E, SG (R94). -/
  | scale (e : BitVec 8) (sg : Bool)
  /-- FIELD P, WM1, SG, SC, E (R95). -/
  | field (p : BitVec 9) (wm1 : BitVec 6) (sg sc : Bool) (e : BitVec 8)
  /-- CRC24Q N (R96). -/
  | crc24q (n : BitVec 9)
  /-- CRCCHK (R97). -/
  | crcchk
  /-- LOADW K (R98). -/
  | loadw (k : BitVec 4)
  /-- ACK (R99). -/
  | ack
  /-- The reserved operation codes 0xA and 0xB (R101), with the 29 bits below the pattern 101. -/
  | reservedAB (low : BitVec 29)
  /-- The reserved operation codes 0xC to 0xF (R101), with the 30 bits below the pattern 11. -/
  | reservedCF (low : BitVec 30)
  deriving DecidableEq, Repr

end Sys2Proof
end

