-- ==== Sys2Proof/WellFormed.lean ====
section
/-! DEFINITION. Which commands are legal: every field value in the range that 30_encoding.md R101
gives it, FIELD's E zero when SC = 0, and no reserved operation code. -/

namespace Sys2Proof

/-- The width of SEXT's container in bits (R93). -/
def Container.width : Container → Nat
  | .c32 => 32
  | .c64 => 64

/-- The legal commands of R101. An ill-formed term still decodes and runs: it raises the command
error that R101 names. -/
def Instr.wellFormed : Instr → Bool
  | .nop => true
  | .extract first last => decide (first.toNat ≤ last.toNat)
  | .concat lw => decide (lw.toNat ≤ 63)
  | .sext tw cw => decide (1 ≤ tw.toNat) && decide (tw.toNat ≤ cw.width)
  | .scale _ _ => true
  | .field p wm1 _ sc e => decide (p.toNat + (wm1.toNat + 1) ≤ 320) && (sc || decide (e = 0))
  | .crc24q n => decide (n.toNat ≤ 320)
  | .crcchk => true
  | .loadw k => decide (k.toNat ≤ 9)
  | .ack => true
  | .reservedAB _ => false
  | .reservedCF _ => false

end Sys2Proof
end

