-- ==== Sys2Proof/Decode.lean ====
section
/-! DEFINITION. Command decoding (30_encoding.md R89 to R105) and the encoder. Decoding is total:
a word is a command, a reserved operation code (a constructor of its own), or is rejected for a
reserved bit. -/

namespace Sys2Proof

/-- Why the decoder rejects a word. A reserved operation code is no rejection here: it decodes to
`Instr.reservedAB` or `Instr.reservedCF`, whose meaning raises ILLEGAL_OP. -/
inductive DecodeReject where
  /-- A bit that the format marks reserved is 1 (R101, point 2). -/
  | reservedBits
  deriving DecidableEq, Repr

/-- The command `i` if the reserved bits `r` of its format are all 0 (R101, point 2). -/
def unlessReserved {n : Nat} (r : BitVec n) (i : Instr) : Except DecodeReject Instr :=
  if r = 0 then .ok i else .error .reservedBits

/-- SEXT's container from its CW bit (R93). -/
def containerOfBit : Bool → Container
  | false => .c32
  | true => .c64

/-- SEXT's CW bit (R93). -/
def bitOfContainer : Container → Bool
  | .c32 => false
  | .c64 => true

/-- Decode a command word by OP = CMD[31:28] (R89, R90), with the field positions of R91 to R100.
FIELD with SC = 0 and E not 0 has the pattern of FIELD in the opcode table and decodes; its meaning
raises RESERVED_BITS (log 9). -/
def decode (w : Word) : Except DecodeReject Instr :=
  match (w.extractLsb' 28 4).toNat with
  | 0x0 => unlessReserved (w.extractLsb' 0 28) .nop
  | 0x1 => unlessReserved (w.extractLsb' 0 18) (.extract (w.extractLsb' 23 5) (w.extractLsb' 18 5))
  | 0x2 => unlessReserved (w.extractLsb' 0 21) (.concat (w.extractLsb' 21 7))
  | 0x3 => unlessReserved (w.extractLsb' 0 20)
      (.sext (w.extractLsb' 21 7) (containerOfBit (w.getLsbD 20)))
  | 0x4 => unlessReserved (w.extractLsb' 0 19) (.scale (w.extractLsb' 20 8) (w.getLsbD 19))
  | 0x5 => unlessReserved (w.extractLsb' 0 3)
      (.field (w.extractLsb' 19 9) (w.extractLsb' 13 6) (w.getLsbD 12) (w.getLsbD 11)
        (w.extractLsb' 3 8))
  | 0x6 => unlessReserved (w.extractLsb' 0 19) (.crc24q (w.extractLsb' 19 9))
  | 0x7 => unlessReserved (w.extractLsb' 0 28) .crcchk
  | 0x8 => unlessReserved (w.extractLsb' 0 24) (.loadw (w.extractLsb' 24 4))
  | 0x9 => unlessReserved (w.extractLsb' 0 28) .ack
  | 0xA => .ok (.reservedAB (w.extractLsb' 0 29))
  | 0xB => .ok (.reservedAB (w.extractLsb' 0 29))
  | _ => .ok (.reservedCF (w.extractLsb' 0 30))

/-- The field value v with its lowest bit at bit `lo` of the command word. -/
def place {n : Nat} (v : BitVec n) (lo : Nat) : Word := v.setWidth 32 <<< lo

/-- The word of a command: OP in bits 31:28 and each field at the position that R91 to R100 give it,
every reserved bit 0. -/
def encode : Instr → Word
  | .nop => place 0x0#4 28
  | .extract first last => place 0x1#4 28 ||| place first 23 ||| place last 18
  | .concat lw => place 0x2#4 28 ||| place lw 21
  | .sext tw cw => place 0x3#4 28 ||| place tw 21 ||| place (BitVec.ofBool (bitOfContainer cw)) 20
  | .scale e sg => place 0x4#4 28 ||| place e 20 ||| place (BitVec.ofBool sg) 19
  | .field p wm1 sg sc e =>
      place 0x5#4 28 ||| place p 19 ||| place wm1 13 ||| place (BitVec.ofBool sg) 12 |||
        place (BitVec.ofBool sc) 11 ||| place e 3
  | .crc24q n => place 0x6#4 28 ||| place n 19
  | .crcchk => place 0x7#4 28
  | .loadw k => place 0x8#4 28 ||| place k 24
  | .ack => place 0x9#4 28
  | .reservedAB low => place 0b101#3 29 ||| place low 0
  | .reservedCF low => place 0b11#2 30 ||| place low 0

/-- A row of the opcode table: the words of the row are those with `w &&& mask = value`. -/
structure TableRow where
  mask : Word
  value : Word
  deriving DecidableEq, Repr

/-- The row of spec/opcode_table.json that a command belongs to (R105). -/
def tableRow : Instr → TableRow
  | .nop => ⟨0xFFFFFFFF, 0x00000000⟩
  | .extract _ _ => ⟨0xF003FFFF, 0x10000000⟩
  | .concat _ => ⟨0xF01FFFFF, 0x20000000⟩
  | .sext _ _ => ⟨0xF00FFFFF, 0x30000000⟩
  | .scale _ _ => ⟨0xF007FFFF, 0x40000000⟩
  | .field _ _ _ _ _ => ⟨0xF0000007, 0x50000000⟩
  | .crc24q _ => ⟨0xF007FFFF, 0x60000000⟩
  | .crcchk => ⟨0xFFFFFFFF, 0x70000000⟩
  | .loadw _ => ⟨0xF0FFFFFF, 0x80000000⟩
  | .ack => ⟨0xFFFFFFFF, 0x90000000⟩
  | .reservedAB _ => ⟨0xE0000000, 0xA0000000⟩
  | .reservedCF _ => ⟨0xC0000000, 0xC0000000⟩

/-- The command read from an instruction of `nbits` bits whose value is `w`. A command is one
32-bit word presented whole on the command port (R89), so there is no byte order to choose; every
bit at `nbits` and above is 0. -/
def decodeTableWord (nbits w : Nat) : Option Instr :=
  match decode (BitVec.ofNat 32 (w % 2 ^ nbits)) with
  | .ok i => some i
  | .error _ => none

end Sys2Proof
end

