-- ==== Sys2Proof/Config.lean ====
section
/-! DEFINITION. The four configuration parameters of a run (00_scope.md R6) and the one value the
spec leaves open, the bytes that select the L2C band (D8 of 92_eei_decisions.md). -/

namespace Sys2Proof

/-- CK_MODE (R6, R173): which trailing checksum bytes VALIDATING compares. -/
inductive CkMode where
  /-- STRICT: compare CK_A and CK_B. -/
  | strict
  /-- CKA_ONLY: compare CK_A only. -/
  | ckaOnly
  deriving DecidableEq, Repr

/-- FILTER_POLICY (R6, R201, R202): what a filter failure does. -/
inductive FilterPolicy where
  /-- RESCAN: rewind to START+1. -/
  | rescan
  /-- SKIP_DECLARED: jump past the declared end of the frame. -/
  | skipDeclared
  deriving DecidableEq, Repr

/-- WORD_WIRE_ORDER (R6, R65): the byte order of a payload word on the wire. -/
inductive WordWireOrder where
  | msbFirst
  | lsbFirst
  deriving DecidableEq, Repr

/-- The parameters of a run (R6). `l2cBandValues` is the set L2C_BAND_VALUES: `some vs` once the
environment has bound it (R294), `none` while it is OPEN, as R6's default says; membership is then
the free predicate `Config.l2cBandSelects` (log 3). -/
structure Params where
  ckMode : CkMode
  filterPolicy : FilterPolicy
  l2cBandValues : Option (List Byte)
  wordWireOrder : WordWireOrder
  deriving DecidableEq, Repr

/-- FREE VALUE (log 3): which values of reserved0 select the L2C band when the run leaves
L2C_BAND_VALUES open. The source never gives them (R6, D8), so nothing is known of this predicate. -/
opaque Config.l2cBandSelects : Byte → Bool

/-- The defaults of R6: STRICT, RESCAN, OPEN, MSB_FIRST. -/
def Params.defaults : Params where
  ckMode := .strict
  filterPolicy := .rescan
  l2cBandValues := none
  wordWireOrder := .msbFirst

end Sys2Proof
end

