-- ==== Sys2Proof/Machine/State.lean ====
section
/-! DEFINITION. The machine's state: every register the spec gives the block (10_state.md), the
parameters of the run (R6, R36), and what stands outside the block and drives it (the stream
delivered so far and the inputs still to come, log 1 and log 7). -/

namespace Sys2Proof.Machine

/-- ST, the FSU state (10_state.md R23). Every value of the 3-bit register is a state. -/
inductive FsuState where
  | seekingSync1
  | seekingSync2
  | readingHeader
  | readingPayload
  | validating
  | accept
  | reject
  | exhausted
  deriving DecidableEq, Repr

/-- EV, the one pending event (10_state.md R24). -/
inductive Event where
  | none
  | frameAccepted
  | checksumMismatch
  | streamExhausted
  deriving DecidableEq, Repr

/-- CERR, the error code of the last command (10_state.md R33, 60_exceptions.md R261). The codes 6
and 7 are never written, so they are no values here. -/
inductive CmdError where
  | ok
  | illegalOp
  | reservedBits
  | range
  | busy
  | noEvent
  deriving DecidableEq, Repr

/-- The accepted-frame header registers O_CLASS to O_CKB (10_state.md R29). -/
structure OutHeader where
  /-- O_CLASS -/
  cls : Byte
  /-- O_ID -/
  id : Byte
  /-- O_LEN -/
  len : BitVec 16
  /-- O_GNSS -/
  gnss : Byte
  /-- O_SV -/
  sv : Byte
  /-- O_RES0 -/
  res0 : Byte
  /-- O_FREQ -/
  freq : Byte
  /-- O_NWORDS -/
  nWords : Byte
  /-- O_CHN -/
  chn : Byte
  /-- O_VER -/
  ver : Byte
  /-- O_RES1 -/
  res1 : Byte
  /-- O_CKA -/
  ckA : Byte
  /-- O_CKB -/
  ckB : Byte
  deriving DecidableEq, Repr

/-- What the outside does to the block, one item a step (20_memory.md R71, R75; 44_control.md R240;
70_reset_and_hazards.md R290). The list of them in State is the interleaving of the run (log 1). -/
inductive Input where
  /-- The FSU takes its turn: one FSU step if it has one (R190, R191). -/
  | fsu
  /-- The host issues one command: the word CMD and the operands A and B (R89, R240). -/
  | command (cmd : Word) (a b : Wide)
  /-- The producer delivers the next bytes of the stream (R60, R75). -/
  | deliver (bytes : List Byte)
  /-- The producer signals the end of the stream (R60, R75). -/
  | endOfStream
  /-- Reset is asserted (R290); `some p` binds new parameters with it (R292, log 4). -/
  | reset (rebind : Option Params)
  deriving DecidableEq, Repr

/-- The machine's state. -/
structure State where
  /-- ST (R23) -/
  st : FsuState
  /-- POS, the stream cursor (R21) -/
  pos : Nat
  /-- START, the index of the candidate's SYNC1 byte (R22) -/
  start : Nat
  /-- EV (R24) -/
  ev : Event
  /-- EV_POS (R25) -/
  evPos : Nat
  /-- FB[0..55], the frame buffer (R27) -/
  fb : Vector Byte 56
  /-- CKA (R28) -/
  cka : Byte
  /-- CKB (R28) -/
  ckb : Byte
  /-- O_CLASS to O_CKB (R29) -/
  out : OutHeader
  /-- PW[0..9], the payload word file (R30) -/
  pw : Vector Word 10
  /-- CRC_CALC (R31) -/
  crcCalc : Crc
  /-- CRC_EMB (R31) -/
  crcEmb : Crc
  /-- CRC_OK (R31) -/
  crcOk : Bool
  /-- RES (R32) -/
  res : Wide
  /-- CERR (R33) -/
  cerr : CmdError
  /-- The parameters of the run (R6, R36; log 3). Not a register: no step but a reset changes it. -/
  params : Params
  /-- The bytes In(0), In(1), … delivered since reset (R60, R75). -/
  stream : List Byte
  /-- The end mark has been signalled; L is then the length of `stream` (R60). -/
  ended : Bool
  /-- The port value A of the command being executed (R89; log 5). Not a register. -/
  portA : Wide
  /-- The port value B of the command being executed (R89; log 5). Not a register. -/
  portB : Wide
  /-- What the outside will do, the next item first (log 1). Not a register. -/
  inputs : List Input
  deriving DecidableEq, Repr

/-- The block has no fault (60_exceptions.md R260, R266: "The FSU has no fault state" in R212), so
this type has no constructor: no step can end in a fault. -/
inductive Fault : Type
  deriving DecidableEq, Repr

/-- Why the model would give an instruction no meaning. -/
inductive Refusal where
  /-- The instruction named has no meaning in the model yet. No arm of `exec` raises it. Safe: the
  machine stops. -/
  | notModelled (mnemonic : String)
  deriving DecidableEq, Repr

/-- Every O_ register at its reset value 0 (70_reset_and_hazards.md R291). -/
def OutHeader.reset : OutHeader where
  cls := 0
  id := 0
  len := 0
  gnss := 0
  sv := 0
  res0 := 0
  freq := 0
  nWords := 0
  chn := 0
  ver := 0
  res1 := 0
  ckA := 0
  ckB := 0

/-- The machine right after reset: every register as 70_reset_and_hazards.md R291 lists it, the
parameters at R6's defaults, and an outside that has done nothing yet (log 1, log 5, log 7). -/
def State.reset : State where
  st := .seekingSync1
  pos := 0
  start := 0
  ev := .none
  evPos := 0
  fb := Vector.replicate 56 0
  cka := 0
  ckb := 0
  out := OutHeader.reset
  pw := Vector.replicate 10 0
  crcCalc := 0
  crcEmb := 0
  crcOk := false
  res := 0
  cerr := .ok
  params := Params.defaults
  stream := []
  ended := false
  portA := 0
  portB := 0
  inputs := []

end Sys2Proof.Machine
end

