-- ==== Sys2Proof/Machine/Binary64.lean ====
section
/-! DEFINITION. Rounding an integer scaled by a power of two to IEEE 754 binary64 (00_scope.md R10
rne64 and bits64, 40_bitfield.md R123). For the operands the block has, |v| ≤ 2^64 and
-128 ≤ e ≤ 127, the result is zero or a normal number (R123), so no other case stands here. -/

namespace Sys2Proof.Machine

/-- The 53-bit significand of a positive integer m, between 2^52 and 2^53 with both ends possible:
m shifted so that its leading bit has weight 2^52, rounded to nearest with ties to even when bits
are dropped (R123). -/
def roundedSignificand (m : Nat) : Nat :=
  if Nat.log2 m ≤ 52 then
    m * 2 ^ (52 - Nat.log2 m)
  else
    let unit := 2 ^ (Nat.log2 m - 52)
    let q := m / unit
    let r := m % unit
    if unit < 2 * r ∨ (2 * r = unit ∧ q % 2 = 1) then q + 1 else q

/-- bits64 of the nearest binary64 value to ±m·2^e, for m > 0: sign, biased exponent, fraction. The
sum lets a significand that rounded up to 2^53 carry into the exponent. -/
def normalPattern (negative : Bool) (m : Nat) (e : Int) : Wide :=
  let exponentField := (e + Nat.log2 m + 1023).toNat
  BitVec.ofNat 64
    ((if negative then 2 ^ 63 else 0) + exponentField * 2 ^ 52 + (roundedSignificand m - 2 ^ 52))

/-- bits64(scale(v, e)) = bits64(rne64(v * 2^e)) (40_bitfield.md R123); v = 0 gives +0.0. -/
def scaleBits (v e : Int) : Wide :=
  if v = 0 then 0 else normalPattern (decide (v < 0)) v.natAbs e

end Sys2Proof.Machine
end

