-- ==== Sys2Proof/Machine/Message.lean ====
section
/-! DEFINITION. The message stream: the 320 bits of PW[0..9] (00_scope.md R8, R9). -/

namespace Sys2Proof.Machine

/-- msb0(w, p): the bit at MSB-first position p of a word (R8). -/
def msb0 (w : Word) (p : Nat) : Bool := w.getMsbD p

/-- PW[k]; a word past PW[9] does not exist and no legal command reads one. -/
def payloadWord (pw : Vector Word 10) (k : Nat) : Word := pw[k]?.getD 0

/-- sbit(i) = msb0(PW[i div 32], i mod 32), 0 ≤ i < 320 (R9). -/
def sbit (pw : Vector Word 10) (i : Nat) : Bool := msb0 (payloadWord pw (i / 32)) (i % 32)

/-- sfield(p, w): the w-bit unsigned value whose most significant bit is sbit(p) and whose least
significant bit is sbit(p+w-1) (R9). -/
def sfield (pw : Vector Word 10) (p : Nat) : Nat → Nat
  | 0 => 0
  | w + 1 => 2 * sfield pw p w + (sbit pw (p + w)).toNat

end Sys2Proof.Machine
end

