-- ==== Sys2Proof/Machine/Operands.lean ====
section
/-! DEFINITION. The operand forms of the commands: the port values A and B, the field values that
are not read as plain unsigned numbers, and the primitives of 00_scope.md R10 that read a pattern of
bits as an integer. -/

namespace Sys2Proof.Machine

/-- zext_N(v): the low N bits of v, read as an unsigned integer (R10). -/
def zextN (n v : Nat) : Nat := v % 2 ^ n

/-- sext_N(v) for N ≥ 1: the low N bits of v, read as an N-bit two's-complement integer (R10). -/
def sextN (n v : Nat) : Int :=
  if zextN n v < 2 ^ (n - 1) then (zextN n v : Int) else (zextN n v : Int) - 2 ^ n

/-- wrap_N(x): the N-bit pattern of x mod 2^N (R10). -/
def wrapN (n : Nat) (x : Int) : BitVec n := BitVec.ofInt n x

/-- Operand A, 64 bits (30_encoding.md R89). -/
def State.operandA (s : State) : Wide := s.portA

/-- Operand B, 64 bits (30_encoding.md R89). -/
def State.operandB (s : State) : Wide := s.portB

/-- A[31:0], the word operand of EXTRACT and LOADW; A[63:32] is ignored (R91, R98). -/
def State.operandWord (s : State) : Word := s.portA.extractLsb' 0 32

/-- An exponent field E: 8-bit two's complement (30_encoding.md R102). -/
def exponentOf (e : BitVec 8) : Int := sextN 8 e.toNat

/-- FIELD's width W = WM1 + 1 (R95). -/
def fieldWidth (wm1 : BitVec 6) : Nat := wm1.toNat + 1

/-- The operand of SCALE as an integer: sext_64(A) when SG = 1, zext_64(A) when SG = 0 (R94, R127). -/
def scaleOperand (sg : Bool) (a : Wide) : Int :=
  if sg then sextN 64 a.toNat else (zextN 64 a.toNat : Int)

/-- The integer of a W-bit field f: sext_W(f) when SG = 1, f when SG = 0 (R128). -/
def fieldInteger (sg : Bool) (w f : Nat) : Int :=
  if sg then sextN w f else (f : Int)

end Sys2Proof.Machine
end

