-- ==== Sys2Proof/Machine/Flags.lean ====
section
/-! DEFINITION. The flag-like state (10_state.md R35): the event line EV_PENDING, the CRC_OK
comparison, the hold states, and the register values that the host reads for ST, EV and CERR. -/

namespace Sys2Proof.Machine

/-- The value of ST (10_state.md R23). -/
def FsuState.code : FsuState → BitVec 3
  | .seekingSync1 => 0
  | .seekingSync2 => 1
  | .readingHeader => 2
  | .readingPayload => 3
  | .validating => 4
  | .accept => 5
  | .reject => 6
  | .exhausted => 7

/-- The value of EV (10_state.md R24). -/
def Event.code : Event → BitVec 2
  | .none => 0
  | .frameAccepted => 1
  | .checksumMismatch => 2
  | .streamExhausted => 3

/-- The value of CERR (60_exceptions.md R261). -/
def CmdError.code : CmdError → BitVec 3
  | .ok => 0
  | .illegalOp => 1
  | .reservedBits => 2
  | .range => 3
  | .busy => 4
  | .noEvent => 5

/-- A hold state: ACCEPT, REJECT or EXHAUSTED (00_scope.md R13, 43_frame_sync.md R191). -/
def FsuState.isHold : FsuState → Bool
  | .seekingSync1 => false
  | .seekingSync2 => false
  | .readingHeader => false
  | .readingPayload => false
  | .validating => false
  | .accept => true
  | .reject => true
  | .exhausted => true

/-- A consuming state: SEEKING_SYNC1, SEEKING_SYNC2, READING_HEADER or READING_PAYLOAD (R192). -/
def FsuState.isConsuming : FsuState → Bool
  | .seekingSync1 => true
  | .seekingSync2 => true
  | .readingHeader => true
  | .readingPayload => true
  | .validating => false
  | .accept => false
  | .reject => false
  | .exhausted => false

/-- EV_PENDING = (EV != NONE) (10_state.md R26, 60_exceptions.md R268). -/
def State.evPending (s : State) : Bool := decide (s.ev ≠ .none)

/-- The CRC_OK comparison: 1 when the computed and the embedded CRC are equal (41_crc24q.md R154,
R156). -/
def crcAgrees (computed embedded : Crc) : Bool := decide (computed = embedded)

end Sys2Proof.Machine
end

