-- ==== Sys2Proof/Machine/Ops.lean ====
section
/-! DEFINITION. The named operations over the registers that commands and FSU steps share. The block
has no trap (60_exceptions.md R260); its two kinds of exception are the command error
(`raiseCmdError`, R262) and the event, whose entry is `enterEvent` (R270) and whose return is
`returnFromEvent` (R271). -/

namespace Sys2Proof.Machine

/-- raise CmdError(code): RES <- 0, CERR <- code, and no other register changes (R262). -/
def State.raiseCmdError (s : State) (code : CmdError) : State :=
  { s with res := 0, cerr := code }

/-- A value-producing command succeeds: RES <- v, CERR <- OK (44_control.md R245). -/
def State.succeedWith (s : State) (v : Wide) : State :=
  { s with res := v, cerr := .ok }

/-- NOP, LOADW or ACK succeeds: CERR <- OK, RES unchanged (44_control.md R245). -/
def State.succeed (s : State) : State :=
  { s with cerr := .ok }

/-- PW[k] <- w (10_state.md R30). There is no word past PW[9]. -/
def State.writePayloadWord (s : State) (k : Nat) (w : Word) : State :=
  { s with pw := s.pw.setIfInBounds k w }

/-- post(kind, at): EV <- kind and EV_POS <- at (43_frame_sync.md R196). -/
def State.post (s : State) (kind : Event) (index : Nat) : State :=
  { s with ev := kind, evPos := index }

/-- Event entry (60_exceptions.md R270): the post, and ST records the hold state. Nothing else is
saved. -/
def State.enterEvent (s : State) (kind : Event) (index : Nat) (hold : FsuState) : State :=
  { s.post kind index with st := hold }

/-- Event return (60_exceptions.md R271): EV <- NONE and ST <- SEEKING_SYNC1; POS and EV_POS keep
their values (44_control.md R244). -/
def State.returnFromEvent (s : State) : State :=
  { s with ev := .none, st := .seekingSync1 }

/-- POS <- POS + 1, the cursor's advance over the byte just read (43_frame_sync.md R193). -/
def State.advance (s : State) : State :=
  { s with pos := s.pos + 1 }

/-- rewind(): POS <- START + 1 and ST <- SEEKING_SYNC1 (43_frame_sync.md R203). -/
def State.rewind (s : State) : State :=
  { s with pos := s.start + 1, st := .seekingSync1 }

/-- The SKIP_DECLARED jump: POS <- START + 8 + len and ST <- SEEKING_SYNC1 (43_frame_sync.md R202). -/
def State.skipDeclared (s : State) (len : Nat) : State :=
  { s with pos := s.start + 8 + len, st := .seekingSync1 }

/-- ST <- st (43_frame_sync.md R190). -/
def State.goto (s : State) (st : FsuState) : State :=
  { s with st := st }

/-- START <- index (43_frame_sync.md R194). -/
def State.beginCandidate (s : State) (index : Nat) : State :=
  { s with start := index }

/-- FB[o] <- x (43_frame_sync.md R198, R204). An offset past 55, which no run reaches, writes nothing
(log 8). -/
def State.storeByte (s : State) (o : Nat) (x : Byte) : State :=
  { s with fb := s.fb.setIfInBounds o x }

/-- CKA <- 0 and CKB <- 0 (42_envelope_checksum.md R172). -/
def State.ecuClear (s : State) : State :=
  { s with cka := 0, ckb := 0 }

/-- ecu_update(x): CKA <- CKA + x, and CKB <- CKB plus the new CKA, both mod 256
(42_envelope_checksum.md R170). -/
def State.ecuUpdate (s : State) (x : Byte) : State :=
  { s with cka := s.cka + x, ckb := s.ckb + (s.cka + x) }

/-- The operand ports take the values A and B that the host presents with a command (30_encoding.md
R89; log 5). -/
def State.presentOperands (s : State) (a b : Wide) : State :=
  { s with portA := a, portB := b }

/-- The inputs still to come after this step (log 1). -/
def State.setInputs (s : State) (rest : List Input) : State :=
  { s with inputs := rest }

end Sys2Proof.Machine
end

