-- ==== Sys2Proof/Machine/BitField.lean ====
section
/-! DEFINITION. The bit-field unit: the four functions of 40_bitfield.md R120 to R123 and the
meanings of EXTRACT, CONCAT, SEXT, SCALE and FIELD (R124 to R128). -/

namespace Sys2Proof.Machine

/-- extract_bits(word, start, end) for start ≤ end ≤ 31 (R120). -/
def extractBits (word : Word) (first last : Nat) : Nat :=
  word.toNat / 2 ^ (31 - last) % 2 ^ (last - first + 1)

/-- concat(high, low, lw) = wrap_64(high * 2^lw) OR low (R121). -/
def concatBits (high low : Wide) (lw : Nat) : Wide := (high <<< lw) ||| low

/-- zext_64(sign_extend_C(value, tw)): the low tw bits of the value sign-extended to the container,
then zero-extended to 64 bits (R122, R126). -/
def signExtendBits (c : Container) (value : Wide) (tw : Nat) : Wide :=
  match c with
  | .c32 => (wrapN 32 (sextN tw value.toNat)).setWidth 64
  | .c64 => wrapN 64 (sextN tw value.toNat)

/-- EXTRACT (R124). -/
def execExtract (first last : BitVec 5) (s : State) : Host.Outcome State Fault Refusal :=
  if last.toNat < first.toNat then
    .next (s.raiseCmdError .range)
  else
    .next (s.succeedWith (BitVec.ofNat 64 (extractBits s.operandWord first.toNat last.toNat)))

/-- CONCAT (R125). -/
def execConcat (lw : BitVec 7) (s : State) : Host.Outcome State Fault Refusal :=
  if 63 < lw.toNat then
    .next (s.raiseCmdError .range)
  else
    .next (s.succeedWith (concatBits s.operandA s.operandB lw.toNat))

/-- SEXT (R126). -/
def execSext (tw : BitVec 7) (cw : Container) (s : State) : Host.Outcome State Fault Refusal :=
  if tw.toNat = 0 ∨ cw.width < tw.toNat then
    .next (s.raiseCmdError .range)
  else
    .next (s.succeedWith (signExtendBits cw s.operandA tw.toNat))

/-- SCALE (R127). Every E and every A is legal. -/
def execScale (e : BitVec 8) (sg : Bool) (s : State) : Host.Outcome State Fault Refusal :=
  .next (s.succeedWith (scaleBits (scaleOperand sg s.operandA) (exponentOf e)))

/-- FIELD (R128). A nonzero E with SC = 0 raises RESERVED_BITS before the range check (R101, R263). -/
def execField (p : BitVec 9) (wm1 : BitVec 6) (sg sc : Bool) (e : BitVec 8) (s : State) :
    Host.Outcome State Fault Refusal :=
  if sc = false ∧ e ≠ 0 then
    .next (s.raiseCmdError .reservedBits)
  else if 320 < p.toNat + fieldWidth wm1 then
    .next (s.raiseCmdError .range)
  else
    let v := fieldInteger sg (fieldWidth wm1) (sfield s.pw p.toNat (fieldWidth wm1))
    .next (s.succeedWith (if sc then scaleBits v (exponentOf e) else wrapN 64 v))

end Sys2Proof.Machine
end

