-- ==== Sys2Proof/Machine/Control.lean ====
section
/-! DEFINITION. The control commands NOP, LOADW and ACK (44_control.md R242 to R244) and the
reserved operation codes (30_encoding.md R101). -/

namespace Sys2Proof.Machine

/-- NOP: CERR <- OK (R242). -/
def execNop (s : State) : Host.Outcome State Fault Refusal :=
  .next s.succeed

/-- LOADW: PW[K] <- A[31:0], in a hold state only; BUSY is checked before RANGE (R243). -/
def execLoadw (k : BitVec 4) (s : State) : Host.Outcome State Fault Refusal :=
  if s.st.isHold = false then
    .next (s.raiseCmdError .busy)
  else if 9 < k.toNat then
    .next (s.raiseCmdError .range)
  else
    .next (s.writePayloadWord k.toNat s.operandWord).succeed

/-- ACK: the event return for FRAME_ACCEPTED and CHECKSUM_MISMATCH; STREAM_EXHAUSTED stays until
reset; NO_EVENT when none is pending (R244). -/
def execAck (s : State) : Host.Outcome State Fault Refusal :=
  match s.ev with
  | .none => .next (s.raiseCmdError .noEvent)
  | .frameAccepted => .next s.returnFromEvent.succeed
  | .checksumMismatch => .next s.returnFromEvent.succeed
  | .streamExhausted => .next s.succeed

/-- A reserved operation code 0xA or 0xB raises ILLEGAL_OP, whatever the other bits (R101, R263). -/
def execReservedAB (_low : BitVec 29) (s : State) : Host.Outcome State Fault Refusal :=
  .next (s.raiseCmdError .illegalOp)

/-- A reserved operation code 0xC to 0xF raises ILLEGAL_OP, whatever the other bits (R101, R263). -/
def execReservedCF (_low : BitVec 30) (s : State) : Host.Outcome State Fault Refusal :=
  .next (s.raiseCmdError .illegalOp)

end Sys2Proof.Machine
end

