-- ==== Sys2Proof/Machine/Crc.lean ====
section
/-! DEFINITION. The CRC-24Q unit: the CRC of the message stream (41_crc24q.md R150), the message
check (R153, R154) and the meanings of CRC24Q and CRCCHK (R155, R156). -/

namespace Sys2Proof.Machine

/-- The feedback mask: 0x1864CFB without its x^24 term (00_scope.md R5, R150). -/
def crcMask : Crc := 0x864CFB

/-- The number of stream bits the embedded CRC covers, CRC_COVER_BITS (R5). -/
def crcCoverBits : Nat := 276

/-- The width of the CRC, CRC_WIDTH (R5). -/
def crcWidth : Nat := 24

/-- One bit into the 24-bit register (R150). -/
def crcStep (c : Crc) (bit : Bool) : Crc :=
  if (c.getLsbD 23) != bit then (c <<< 1) ^^^ crcMask else c <<< 1

/-- crc24q(n): the CRC-24Q of the first n bits of the message stream (R150). -/
def crc24qOf (pw : Vector Word 10) : Nat → Crc
  | 0 => 0
  | n + 1 => crcStep (crc24qOf pw n) (sbit pw n)

/-- The message's embedded CRC, sfield(276, 24) (R153). -/
def embeddedCrc (pw : Vector Word 10) : Crc :=
  BitVec.ofNat 24 (sfield pw crcCoverBits crcWidth)

/-- The CRC computed over the bits the embedded CRC covers (R154). -/
def computedCrc (pw : Vector Word 10) : Crc := crc24qOf pw crcCoverBits

/-- crc_check(): CRC_CALC, CRC_EMB and CRC_OK from the payload words (R154). -/
def State.crcCheck (s : State) : State :=
  { s with
    crcCalc := computedCrc s.pw
    crcEmb := embeddedCrc s.pw
    crcOk := crcAgrees (computedCrc s.pw) (embeddedCrc s.pw) }

/-- CRCCHK's result: RES[23:0] the computed CRC, RES[47:24] the embedded CRC, RES[48] their
agreement, RES[63:49] zero (R156). -/
def crcCheckResult (pw : Vector Word 10) : Wide :=
  BitVec.ofNat 64
    ((crcAgrees (computedCrc pw) (embeddedCrc pw)).toNat * 2 ^ 48 +
      (embeddedCrc pw).toNat * 2 ^ 24 + (computedCrc pw).toNat)

/-- CRC24Q (R155). -/
def execCrc24q (n : BitVec 9) (s : State) : Host.Outcome State Fault Refusal :=
  if 320 < n.toNat then
    .next (s.raiseCmdError .range)
  else
    .next (s.succeedWith ((crc24qOf s.pw n.toNat).setWidth 64))

/-- CRCCHK (R156). It writes none of CRC_CALC, CRC_EMB and CRC_OK. -/
def execCrcchk (s : State) : Host.Outcome State Fault Refusal :=
  .next (s.succeedWith (crcCheckResult s.pw))

end Sys2Proof.Machine
end

