-- ==== Sys2Proof/Machine/Dispatch.lean ====
section
/-! DEFINITION. One arm for each command: its meaning. -/

namespace Sys2Proof.Machine

def exec (i : Instr) (s : State) : Host.Outcome State Fault Refusal :=
  match i with
  | .nop => Sys2Proof.Machine.execNop s
  | .extract first last => Sys2Proof.Machine.execExtract first last s
  | .concat lw => Sys2Proof.Machine.execConcat lw s
  | .sext tw cw => Sys2Proof.Machine.execSext tw cw s
  | .scale e sg => Sys2Proof.Machine.execScale e sg s
  | .field p wm1 sg sc e => Sys2Proof.Machine.execField p wm1 sg sc e s
  | .crc24q n => Sys2Proof.Machine.execCrc24q n s
  | .crcchk => Sys2Proof.Machine.execCrcchk s
  | .loadw k => Sys2Proof.Machine.execLoadw k s
  | .ack => Sys2Proof.Machine.execAck s
  | .reservedAB low => Sys2Proof.Machine.execReservedAB low s
  | .reservedCF low => Sys2Proof.Machine.execReservedCF low s

end Sys2Proof.Machine
end

