-- ==== Sys2Proof/Machine/FrameSync.lean ====
section
/-! DEFINITION. The frame synchronizer unit and the envelope checksum unit: the UBX frame layout
(30_encoding.md R80 to R85) and the FSU step (43_frame_sync.md R190 to R208). -/

namespace Sys2Proof.Machine

/-- SYNC1 (00_scope.md R5). -/
def sync1 : Byte := 0xB5

/-- SYNC2 (R5). -/
def sync2 : Byte := 0x62

/-- CLASS_SFRBX (R5). -/
def classSfrbx : Byte := 0x02

/-- ID_SFRBX (R5). -/
def idSfrbx : Byte := 0x13

/-- GNSS_GPS (R5). -/
def gnssGps : Byte := 0x00

/-- LEN_CNAV (R5). -/
def lenCnav : Nat := 48

/-- The length field, little-endian: FB[4] + 256*FB[5] (20_memory.md R64). -/
def declaredLength (fb : Vector Byte 56) : Nat := fb[4].toNat + 256 * fb[5].toNat

/-- reserved0 is in L2C_BAND_VALUES (00_scope.md R6): in the set the run has bound, or selected by
the free predicate while the set is OPEN (log 3). -/
def selectsL2c (p : Params) (reserved0 : Byte) : Bool :=
  match p.l2cBandValues with
  | some values => values.contains reserved0
  | none => Config.l2cBandSelects reserved0

/-- The class/id check (43_frame_sync.md R199). -/
def classIdMatches (fb : Vector Byte 56) : Bool :=
  decide (fb[2] = classSfrbx) && decide (fb[3] = idSfrbx)

/-- The sub-header filter: gnssId, reserved0 and length, and no other field (R200, R85). -/
def filterPasses (p : Params) (fb : Vector Byte 56) : Bool :=
  decide (fb[6] = gnssGps) && selectsL2c p fb[8] && decide (declaredLength fb = lenCnav)

/-- ck_ok: CK_A against CKA, and under STRICT also CK_B against CKB (42_envelope_checksum.md R173). -/
def State.ckOk (s : State) : Bool :=
  match s.params.ckMode with
  | .strict => decide (s.fb[54] = s.cka) && decide (s.fb[55] = s.ckb)
  | .ckaOnly => decide (s.fb[54] = s.cka)

/-- FB[o], for the offsets 0..55. -/
def frameByte (fb : Vector Byte 56) (o : Nat) : Byte := fb[o]?.getD 0

/-- The k-th payload word from its four wire bytes (20_memory.md R65). -/
def wireWord (order : WordWireOrder) (fb : Vector Byte 56) (k : Nat) : Word :=
  let x := fun j => (frameByte fb (14 + 4 * k + j)).toNat
  match order with
  | .msbFirst => BitVec.ofNat 32 (x 0 * 2 ^ 24 + x 1 * 2 ^ 16 + x 2 * 2 ^ 8 + x 3)
  | .lsbFirst => BitVec.ofNat 32 (x 3 * 2 ^ 24 + x 2 * 2 ^ 16 + x 1 * 2 ^ 8 + x 0)

/-- The ten payload words of the frame in the buffer (R206). -/
def wireWords (order : WordWireOrder) (fb : Vector Byte 56) : Vector Word 10 :=
  Vector.ofFn fun k => wireWord order fb k.val

/-- The O_ registers as accept_load() takes them from the frame buffer (10_state.md R29, R206). -/
def outHeader (fb : Vector Byte 56) : OutHeader where
  cls := fb[2]
  id := fb[3]
  len := BitVec.ofNat 16 (declaredLength fb)
  gnss := fb[6]
  sv := fb[7]
  res0 := fb[8]
  freq := fb[9]
  nWords := fb[10]
  chn := fb[11]
  ver := fb[12]
  res1 := fb[13]
  ckA := fb[54]
  ckB := fb[55]

/-- accept_load(): the O_ registers, the payload words, then the message check on the new words
(43_frame_sync.md R206, 41_crc24q.md R154). -/
def State.acceptLoad (s : State) : State :=
  State.crcCheck
    { s with out := outHeader s.fb, pw := wireWords s.params.wordWireOrder s.fb }

/-- The VALIDATING step (R205). -/
def State.validate (s : State) : State :=
  if s.ckOk then
    s.acceptLoad.enterEvent .frameAccepted s.start .accept
  else
    { s.enterEvent .checksumMismatch s.start .reject with pos := s.start + 1 }

/-- SEEKING_SYNC1 with the byte x read at index p; POS is already past it (R194). -/
def State.seekSync1 (s : State) (p : Nat) (x : Byte) : State :=
  if x = sync1 then ((s.beginCandidate p).storeByte 0 x).goto .seekingSync2 else s

/-- SEEKING_SYNC2 with the byte x (R195). -/
def State.seekSync2 (s : State) (x : Byte) : State :=
  if x = sync2 then (s.storeByte 1 x).ecuClear.goto .readingHeader else s.rewind

/-- The action on a filter failure, by FILTER_POLICY (R201, R202). -/
def State.filterFailure (s : State) : State :=
  match s.params.filterPolicy with
  | .rescan => s.rewind
  | .skipDeclared => s.skipDeclared (declaredLength s.fb)

/-- The tests of READING_HEADER after the byte at offset o is stored and accumulated: class and id at
offset 3 (R199), the filter at offset 13 (R200). -/
def State.headerTests (s : State) (o : Nat) : State :=
  if o = 3 then
    if classIdMatches s.fb then s else s.rewind
  else if o = 13 then
    if filterPasses s.params s.fb then s.goto .readingPayload else s.filterFailure
  else s

/-- READING_HEADER with the byte x at offset o: store, accumulate, then test (R198). -/
def State.readHeader (s : State) (o : Nat) (x : Byte) : State :=
  ((s.storeByte o x).ecuUpdate x).headerTests o

/-- READING_PAYLOAD with the byte x at offset o (R204). -/
def State.readPayload (s : State) (o : Nat) (x : Byte) : State :=
  let t := s.storeByte o x
  let t := if o ≤ 53 then t.ecuUpdate x else t
  if o = 55 then t.goto .validating else t

/-- A consuming step that reads the byte x = In(POS): POS <- POS + 1, then the rule of the state; the
offset is the index read minus START (R193). In the states that consume nothing it is never used. -/
def State.consume (s : State) (x : Byte) : State :=
  match s.st with
  | .seekingSync1 => s.advance.seekSync1 s.pos x
  | .seekingSync2 => s.advance.seekSync2 x
  | .readingHeader => s.advance.readHeader (s.pos - s.start) x
  | .readingPayload => s.advance.readPayload (s.pos - s.start) x
  | .validating => s
  | .accept => s
  | .reject => s
  | .exhausted => s

/-- A step in a consuming state: read one byte (R193); or, at or past the end mark, post
STREAM_EXHAUSTED with L (R192); or no step while a live stream has not delivered the byte
(20_memory.md R75). -/
def State.consumingStep (s : State) : Option State :=
  match s.stream[s.pos]? with
  | some x => some (s.consume x)
  | none =>
    if s.ended then some (s.enterEvent .streamExhausted s.stream.length .exhausted) else none

/-- fsu_step(): the FSU's one step, `none` where it has none (R190, R191). -/
def fsuStep (s : State) : Option State :=
  match s.st with
  | .seekingSync1 => s.consumingStep
  | .seekingSync2 => s.consumingStep
  | .readingHeader => s.consumingStep
  | .readingPayload => s.consumingStep
  | .validating => some s.validate
  | .accept => none
  | .reject => none
  | .exhausted => none

end Sys2Proof.Machine
end

