-- ==== Sys2Proof/Machine/Agents.lean ====
section
/-! DEFINITION. The turn of each agent, and of the producer and the reset input: one atomic step
(20_memory.md R71). The head of `inputs` says whose turn it is; when the outside does nothing more,
every further turn is the FSU's (log 1). -/

namespace Sys2Proof.Machine

/-- The FSU's turn: its step, or nothing where it has no step (R191; log 2). -/
def fsuTurn (s : State) : Host.Outcome State Fault Refusal :=
  .next ((fsuStep s).getD s)

/-- The command step (44_control.md R240, R241): decode, then the operation's rule. A word with a
reserved bit set raises RESERVED_BITS (R101). -/
def commandTurn (cmd : Word) (a b : Wide) (s : State) : Host.Outcome State Fault Refusal :=
  match decode cmd with
  | .ok i => exec i (s.presentOperands a b)
  | .error .reservedBits => .next ((s.presentOperands a b).raiseCmdError .reservedBits)

/-- The producer delivers bytes (20_memory.md R60, R75). After the end mark nothing more belongs to
the stream (log 7). -/
def deliverTurn (bytes : List Byte) (s : State) : Host.Outcome State Fault Refusal :=
  .next (if s.ended then s else { s with stream := s.stream ++ bytes })

/-- The producer signals the end of the stream (20_memory.md R60, R75). -/
def endTurn (s : State) : Host.Outcome State Fault Refusal :=
  .next { s with ended := true }

/-- Reset (70_reset_and_hazards.md R290): every register takes its reset value and a new run over a
new stream begins. The parameters stay, unless new ones are bound with the reset (R292; log 4); the
inputs still to come stay. -/
def resetTurn (rebind : Option Params) (s : State) : Host.Outcome State Fault Refusal :=
  .next { State.reset with params := rebind.getD s.params, inputs := s.inputs }

/-- One step of the machine: the turn that the head of `inputs` names. -/
def takeTurn (s : State) : Host.Outcome State Fault Refusal :=
  match s.inputs with
  | [] => fsuTurn s
  | .fsu :: rest => fsuTurn (s.setInputs rest)
  | .command cmd a b :: rest => commandTurn cmd a b (s.setInputs rest)
  | .deliver bytes :: rest => deliverTurn bytes (s.setInputs rest)
  | .endOfStream :: rest => endTurn (s.setInputs rest)
  | .reset rebind :: rest => resetTurn rebind (s.setInputs rest)

/-- The command word of an instruction of `nbits` bits with value `w`, every bit above 0 (R89). -/
def tableWord (nbits w : Nat) : Word := BitVec.ofNat 32 (w % 2 ^ nbits)

end Sys2Proof.Machine
end

