-- ==== Sys2Proof/Machine/Step.lean ====
section
/-! DEFINITION. The step of the machine, and how an instruction is placed for the next step. -/

namespace Sys2Proof.Machine

/-- One step of the machine (20_memory.md R71). -/
def step (s : State) : Host.Outcome State Fault Refusal := takeTurn s

/-- The state in which the host presents the command word `w` next, with the operands that stand on
the ports: the block has no instruction memory, and commands arrive on the port one at a time
(20_memory.md R74; log 6). -/
def State.withFetchWord (s : State) (nbits w : Nat) : State :=
  s.setInputs (.command (tableWord nbits w) s.portA s.portB :: s.inputs)

end Sys2Proof.Machine
end

