-- ==== Sys2Proof/Machine/Assembler.lean ====
section
/-! DEFINITION. The assembler forms and the pseudo-instructions (30_encoding.md R103, R104), with
their operands as numbers. The text of a line is read in AsmText.lean. -/

namespace Sys2Proof.Machine

/-- An assembler line without its port operands (R103), and the pseudo-instructions (R104). -/
inductive AsmLine where
  | nop
  | extract (first last : Nat)
  | concat (lw : Nat)
  | sext (tw : Nat) (container : Container)
  | scale (e : Int) (signed : Bool)
  /-- FIELD p, w, s|u: SC = 0, E = 0. -/
  | field (p w : Nat) (signed : Bool)
  /-- FIELD p, w, s|u, e: SC = 1. -/
  | fieldScaled (p w : Nat) (signed : Bool) (e : Int)
  | crc24q (n : Nat)
  | crcchk
  | loadw (k : Nat)
  | ack
  | bit (p : Nat)
  | word
  | sext32 (tw : Nat)
  | sext64 (tw : Nat)
  | fieldI (p w : Nat) (signed : Bool)
  | fieldF (p w : Nat) (signed : Bool) (e : Int)
  | msgCrc
  | crc276
  | clrErr
  deriving DecidableEq, Repr

/-- The expansion of a pseudo-instruction (R104); every other line stands for itself. -/
def AsmLine.expand : AsmLine → AsmLine
  | .bit p => .extract p p
  | .word => .extract 0 31
  | .sext32 tw => .sext tw .c32
  | .sext64 tw => .sext tw .c64
  | .fieldI p w signed => .field p w signed
  | .fieldF p w signed e => .fieldScaled p w signed e
  | .msgCrc => .field 276 24 false
  | .crc276 => .crc24q 276
  | .clrErr => .nop
  | line => line

/-- An unsigned field of n bits, where the number fits. -/
def unsignedField (n v : Nat) : Option (BitVec n) :=
  if v < 2 ^ n then some (BitVec.ofNat n v) else none

/-- An exponent field, 8-bit two's complement (R102), where the number fits. -/
def exponentField (e : Int) : Option (BitVec 8) :=
  if -128 ≤ e ∧ e ≤ 127 then some (wrapN 8 e) else none

/-- FIELD's WM1 = w - 1 (R103), for 1 ≤ w ≤ 64. -/
def widthField (w : Nat) : Option (BitVec 6) :=
  if 1 ≤ w then unsignedField 6 (w - 1) else none

/-- The command of a line that needs no expansion, where every operand fits its field (R103). -/
def AsmLine.toInstr : AsmLine → Option Instr
  | .nop => some .nop
  | .extract first last => do
      some (.extract (← unsignedField 5 first) (← unsignedField 5 last))
  | .concat lw => do some (.concat (← unsignedField 7 lw))
  | .sext tw container => do some (.sext (← unsignedField 7 tw) container)
  | .scale e signed => do some (.scale (← exponentField e) signed)
  | .field p w signed => do
      some (.field (← unsignedField 9 p) (← widthField w) signed false 0)
  | .fieldScaled p w signed e => do
      some (.field (← unsignedField 9 p) (← widthField w) signed true (← exponentField e))
  | .crc24q n => do some (.crc24q (← unsignedField 9 n))
  | .crcchk => some .crcchk
  | .loadw k => do some (.loadw (← unsignedField 4 k))
  | .ack => some .ack
  | _ => none

/-- The command that an assembler line stands for (R103, R104). -/
def AsmLine.assemble (line : AsmLine) : Option Instr := line.expand.toInstr

/-- The input of an assembler line with its port operands; a missing port operand is 0 (R103). -/
def AsmLine.toInput (line : AsmLine) (a : Wide := 0) (b : Wide := 0) : Option Input :=
  line.assemble.map fun i => .command (encode i) a b

end Sys2Proof.Machine
end

