-- ==== Sys2Proof/Machine/AsmText.lean ====
section
/-! DEFINITION. The text of an assembler line (30_encoding.md R103, R104): a mnemonic, its field
operands separated by commas, then port operands in braces. What R103 does not say of the text is the
model's choice (DESIGN CHOICE, log 13). -/

namespace Sys2Proof.Machine

/-- The pieces of an assembler line. -/
inductive AsmToken where
  /-- A mnemonic, a number, a port name, or one of s, u, c32 and c64. -/
  | word (text : List Char)
  | comma
  | equals
  | braceLeft
  | braceRight
  deriving DecidableEq, Repr

/-- A line's tokens; `acc` is the word under way, last character first. A semicolon begins a comment
that runs to the end of the line. -/
def tokensFrom (acc : List Char) : List Char → List AsmToken
  | [] => wordOf acc []
  | c :: rest =>
    if c.toNat = 0x3B then wordOf acc []
    else if c.toNat = 0x20 ∨ c.toNat = 0x09 then wordOf acc (tokensFrom [] rest)
    else if c.toNat = 0x2C then wordOf acc (.comma :: tokensFrom [] rest)
    else if c.toNat = 0x3D then wordOf acc (.equals :: tokensFrom [] rest)
    else if c.toNat = 0x7B then wordOf acc (.braceLeft :: tokensFrom [] rest)
    else if c.toNat = 0x7D then wordOf acc (.braceRight :: tokensFrom [] rest)
    else tokensFrom (c :: acc) rest
where
  /-- The word under way, if any, before the tokens that follow it. -/
  wordOf (acc : List Char) (rest : List AsmToken) : List AsmToken :=
    match acc with
    | [] => rest
    | c :: cs => .word (c :: cs).reverse :: rest

/-- The value of a decimal or hexadecimal digit. -/
def digitValue (c : Char) : Option Nat :=
  let n := c.toNat
  if 0x30 ≤ n ∧ n ≤ 0x39 then some (n - 0x30)
  else if 0x41 ≤ n ∧ n ≤ 0x46 then some (n - 0x41 + 10)
  else if 0x61 ≤ n ∧ n ≤ 0x66 then some (n - 0x61 + 10)
  else none

/-- The value of digits in a base, after the digits whose value is `acc`. -/
def digitsValue (base acc : Nat) : List Char → Option Nat
  | [] => some acc
  | c :: rest =>
    match digitValue c with
    | some d => if d < base then digitsValue base (base * acc + d) rest else none
    | none => none

/-- A number: decimal, or hexadecimal with 0x (R103). -/
def numberOf : List Char → Option Nat
  | [] => none
  | '0' :: 'x' :: c :: rest => digitsValue 16 0 (c :: rest)
  | c :: rest => digitsValue 10 0 (c :: rest)

/-- A signed number: a scale exponent. R103 writes it as a signed decimal and lets field operands be
hexadecimal; that a scale exponent may be hexadecimal too, with or without a minus sign, is the
model's choice (DESIGN CHOICE, log 13). -/
def signedNumberOf : List Char → Option Int
  | '-' :: rest => (numberOf rest).map fun n => -(n : Int)
  | cs => (numberOf cs).map fun n => (n : Int)

/-- s or u: signed, SG = 1, or unsigned, SG = 0 (R103). -/
def signednessOf : List Char → Option Bool
  | ['s'] => some true
  | ['u'] => some false
  | _ => none

/-- c32 or c64: SEXT's container (R103). -/
def containerOf : List Char → Option Container
  | ['c', '3', '2'] => some .c32
  | ['c', '6', '4'] => some .c64
  | _ => none

/-- The mnemonics of R103 and R104. -/
inductive Mnemonic where
  | nop | extract | concat | sext | scale | field | crc24q | crcchk | loadw | ack
  | bit | word | sext32 | sext64 | fieldI | fieldF | msgCrc | crc276 | clrErr
  deriving DecidableEq, Repr

/-- The spelling of each mnemonic. -/
def mnemonics : List (List Char × Mnemonic) :=
  [(['N', 'O', 'P'], .nop),
    (['E', 'X', 'T', 'R', 'A', 'C', 'T'], .extract),
    (['C', 'O', 'N', 'C', 'A', 'T'], .concat),
    (['S', 'E', 'X', 'T'], .sext),
    (['S', 'C', 'A', 'L', 'E'], .scale),
    (['F', 'I', 'E', 'L', 'D'], .field),
    (['C', 'R', 'C', '2', '4', 'Q'], .crc24q),
    (['C', 'R', 'C', 'C', 'H', 'K'], .crcchk),
    (['L', 'O', 'A', 'D', 'W'], .loadw),
    (['A', 'C', 'K'], .ack)] ++
  [(['B', 'I', 'T'], .bit),
    (['W', 'O', 'R', 'D'], .word),
    (['S', 'E', 'X', 'T', '3', '2'], .sext32),
    (['S', 'E', 'X', 'T', '6', '4'], .sext64),
    (['F', 'I', 'E', 'L', 'D', 'I'], .fieldI),
    (['F', 'I', 'E', 'L', 'D', 'F'], .fieldF),
    (['M', 'S', 'G', 'C', 'R', 'C'], .msgCrc),
    (['C', 'R', 'C', '2', '7', '6'], .crc276),
    (['C', 'L', 'R', 'E', 'R', 'R'], .clrErr)]

/-- The line of a mnemonic with its field operands in the order of R103 and R104. -/
def lineOf : Mnemonic → List (List Char) → Option AsmLine
  | .nop, [] => some .nop
  | .extract, [a, b] => do some (.extract (← numberOf a) (← numberOf b))
  | .concat, [a] => do some (.concat (← numberOf a))
  | .sext, [a, c] => do some (.sext (← numberOf a) (← containerOf c))
  | .scale, [e, g] => do some (.scale (← signedNumberOf e) (← signednessOf g))
  | .field, [p, w, g] => do some (.field (← numberOf p) (← numberOf w) (← signednessOf g))
  | .field, [p, w, g, e] => do
      some (.fieldScaled (← numberOf p) (← numberOf w) (← signednessOf g) (← signedNumberOf e))
  | .crc24q, [n] => do some (.crc24q (← numberOf n))
  | .crcchk, [] => some .crcchk
  | .loadw, [k] => do some (.loadw (← numberOf k))
  | .ack, [] => some .ack
  | .bit, [p] => do some (.bit (← numberOf p))
  | .word, [] => some .word
  | .sext32, [a] => do some (.sext32 (← numberOf a))
  | .sext64, [a] => do some (.sext64 (← numberOf a))
  | .fieldI, [p, w, g] => do some (.fieldI (← numberOf p) (← numberOf w) (← signednessOf g))
  | .fieldF, [p, w, g, e] => do
      some (.fieldF (← numberOf p) (← numberOf w) (← signednessOf g) (← signedNumberOf e))
  | .msgCrc, [] => some .msgCrc
  | .crc276, [] => some .crc276
  | .clrErr, [] => some .clrErr
  | _, _ => none

/-- Words separated by single commas, at least one. -/
def commaWords : List AsmToken → Option (List (List Char))
  | [.word w] => some [w]
  | .word w :: .comma :: rest => (commaWords rest).map (w :: ·)
  | _ => none

/-- The field operands: none, or words separated by commas. -/
def fieldWords : List AsmToken → Option (List (List Char))
  | [] => some []
  | t :: rest => commaWords (t :: rest)

/-- The port operands after the opening brace: name = value, separated by commas, then the closing
brace. -/
def portValues : List AsmToken → Option (List (List Char × Wide))
  | [.word name, .equals, .word v, .braceRight] => do
      some [(name, ← (numberOf v).bind (unsignedField 64))]
  | .word name :: .equals :: .word v :: .comma :: rest => do
      some ((name, ← (numberOf v).bind (unsignedField 64)) :: (← portValues rest))
  | _ => none

/-- The port operands: none, or those in braces, each named A or B. That any command may have either
port, also one whose form in R103 lists none, and that empty braces assemble to nothing, is the
model's choice (DESIGN CHOICE, log 13). -/
def portOperands : List AsmToken → Option (List (List Char × Wide))
  | [] => some []
  | .braceLeft :: rest =>
    (portValues rest).filter fun ports => ports.all fun p => p.1 == ['A'] || p.1 == ['B']
  | _ => none

/-- The command that an assembler line of text stands for, as the host presents it; a missing port
operand is 0 (R103). -/
def assembleText (text : List Char) : Option Input :=
  match tokensFrom [] text with
  | .word m :: rest => do
      let fields ← fieldWords (rest.takeWhile (· ≠ .braceLeft))
      let ports ← portOperands (rest.dropWhile (· ≠ .braceLeft))
      let line ← (mnemonics.lookup m).bind (lineOf · fields)
      line.toInput ((ports.lookup ['A']).getD 0) ((ports.lookup ['B']).getD 0)
  | _ => none

end Sys2Proof.Machine
end

