-- ==== Sys2Proof/Machine/ReadPort.lean ====
section
/-! DEFINITION. The register read port (10_state.md R34): what the host can read, at any time and
with no side effect. FB, CKA and CKB are not on it. -/

namespace Sys2Proof.Machine

/-- A host-visible register (R34). -/
inductive HostReg where
  | st | pos | start | ev | evPos | evPending
  | oClass | oId | oLen | oGnss | oSv | oRes0 | oFreq | oNwords | oChn | oVer | oRes1 | oCka | oCkb
  | pw (k : Fin 10)
  | crcCalc | crcEmb | crcOk | res | cerr
  deriving DecidableEq, Repr

/-- The number the host reads. POS, START and EV_POS are natural numbers (R7); every other register
is read as the unsigned value of its bits. -/
def readPort (s : State) : HostReg → Nat
  | .st => s.st.code.toNat
  | .pos => s.pos
  | .start => s.start
  | .ev => s.ev.code.toNat
  | .evPos => s.evPos
  | .evPending => s.evPending.toNat
  | .oClass => s.out.cls.toNat
  | .oId => s.out.id.toNat
  | .oLen => s.out.len.toNat
  | .oGnss => s.out.gnss.toNat
  | .oSv => s.out.sv.toNat
  | .oRes0 => s.out.res0.toNat
  | .oFreq => s.out.freq.toNat
  | .oNwords => s.out.nWords.toNat
  | .oChn => s.out.chn.toNat
  | .oVer => s.out.ver.toNat
  | .oRes1 => s.out.res1.toNat
  | .oCka => s.out.ckA.toNat
  | .oCkb => s.out.ckB.toNat
  | .pw k => s.pw[k].toNat
  | .crcCalc => s.crcCalc.toNat
  | .crcEmb => s.crcEmb.toNat
  | .crcOk => s.crcOk.toNat
  | .res => s.res.toNat
  | .cerr => s.cerr.code.toNat

end Sys2Proof.Machine
end

