-- ==== Sys2Proof/Safety.lean ====
section
/-! DEFINITION. What counts as a good state, a valid frame and a good rounding: the words that the
statements about the machine use. Nothing here is used by the machine. -/

namespace Sys2Proof.Machine

/-! ## Frames of the input stream -/

/-- The byte at frame offset o of a candidate that starts at stream index f: In(f + o)
(20_memory.md R62). -/
def frameAt (stream : List Byte) (f o : Nat) : Byte := stream.getD (f + o) 0

/-- The sum of the bytes at offsets 2 to k-1: what CKA holds, mod 256 (42_envelope_checksum.md
R174). -/
def ckaSum (byte : Nat → Byte) (k : Nat) : Nat :=
  ∑ o ∈ Finset.Ico 2 k, (byte o).toNat

/-- The weighted sum of the bytes at offsets 2 to k-1: what CKB holds, mod 256
(42_envelope_checksum.md R174). -/
def ckbSum (byte : Nat → Byte) (k : Nat) : Nat :=
  ∑ o ∈ Finset.Ico 2 k, (k - o) * (byte o).toNat

/-- The sub-header filter on the bytes of a candidate (43_frame_sync.md R200). -/
def FilterAccepts (p : Params) (byte : Nat → Byte) : Prop :=
  byte 6 = 0x00 ∧ selectsL2c p (byte 8) = true ∧ (byte 4).toNat + 256 * (byte 5).toNat = 48

/-- The trailing bytes equal the envelope checksum, CK_B only under STRICT (42_envelope_checksum.md
R173, R174). -/
def ChecksumAccepts (p : Params) (byte : Nat → Byte) : Prop :=
  (byte 54).toNat = ckaSum byte 54 % 256 ∧
    (p.ckMode = .strict → (byte 55).toNat = ckbSum byte 54 % 256)

/-- The 56 bytes from index f are a frame that the block accepts (30_encoding.md R80): the sync
bytes, class and id, the filter, and the envelope checksum. -/
def ValidFrameAt (p : Params) (stream : List Byte) (f : Nat) : Prop :=
  f + 56 ≤ stream.length ∧
    frameAt stream f 0 = 0xB5 ∧ frameAt stream f 1 = 0x62 ∧
    frameAt stream f 2 = 0x02 ∧ frameAt stream f 3 = 0x13 ∧
    FilterAccepts p (frameAt stream f) ∧ ChecksumAccepts p (frameAt stream f)

/-! ## The states of the FSU -/

/-- The event that each FSU state holds (10_state.md R24). -/
def heldEvent : FsuState → Event
  | .seekingSync1 => .none
  | .seekingSync2 => .none
  | .readingHeader => .none
  | .readingPayload => .none
  | .validating => .none
  | .accept => .frameAccepted
  | .reject => .checksumMismatch
  | .exhausted => .streamExhausted

/-- A state in which a candidate frame is being read or decided. -/
def FsuState.inCandidate : FsuState → Bool
  | .seekingSync1 => false
  | .seekingSync2 => true
  | .readingHeader => true
  | .readingPayload => true
  | .validating => true
  | .accept => false
  | .reject => false
  | .exhausted => false

/-- A state in which the accumulators CKA and CKB are live: after the SYNC2 match, up to the
compare (42_envelope_checksum.md R172, R173). -/
def FsuState.checksumLive : FsuState → Bool
  | .seekingSync1 => false
  | .seekingSync2 => false
  | .readingHeader => true
  | .readingPayload => true
  | .validating => true
  | .accept => false
  | .reject => false
  | .exhausted => false

/-- Where the cursor stands relative to START in each FSU state (43_frame_sync.md R194 to R205,
R207). -/
def CursorInPlace (s : State) : Prop :=
  match s.st with
  | .seekingSync1 => True
  | .seekingSync2 => s.pos = s.start + 1
  | .readingHeader => s.start + 2 ≤ s.pos ∧ s.pos ≤ s.start + 13
  | .readingPayload => s.start + 14 ≤ s.pos ∧ s.pos ≤ s.start + 55
  | .validating => s.pos = s.start + 56
  | .accept => s.pos = s.start + 56
  | .reject => s.pos = s.start + 1
  | .exhausted => s.ended = true ∧ s.stream.length ≤ s.pos

/-- The checks a candidate has passed by the time it is in each FSU state (43_frame_sync.md R194,
R195, R199, R200). -/
def ChecksPassed (s : State) : Prop :=
  (s.st.inCandidate = true → frameAt s.stream s.start 0 = 0xB5) ∧
  (s.st.checksumLive = true → frameAt s.stream s.start 1 = 0x62) ∧
  (s.st.checksumLive = true → s.start + 4 ≤ s.pos →
    frameAt s.stream s.start 2 = 0x02 ∧ frameAt s.stream s.start 3 = 0x13) ∧
  (s.st.checksumLive = true → s.start + 14 ≤ s.pos →
    FilterAccepts s.params (frameAt s.stream s.start))

/-- The O_ registers hold the header of the frame at index f (10_state.md R29, R206). -/
def HeaderOfFrame (out : OutHeader) (byte : Nat → Byte) : Prop :=
  out.cls = byte 2 ∧ out.id = byte 3 ∧
    out.len.toNat = (byte 4).toNat + 256 * (byte 5).toNat ∧
    out.gnss = byte 6 ∧ out.sv = byte 7 ∧ out.res0 = byte 8 ∧ out.freq = byte 9 ∧
    out.nWords = byte 10 ∧ out.chn = byte 11 ∧ out.ver = byte 12 ∧ out.res1 = byte 13 ∧
    out.ckA = byte 54 ∧ out.ckB = byte 55

/-- The invariant of the frame synchronizer: what every state that a run reaches satisfies. -/
structure FsuInv (s : State) : Prop where
  /-- EV and ST agree (10_state.md R24). -/
  event : s.ev = heldEvent s.st
  /-- The cursor stands where the FSU state says. -/
  cursor : CursorInPlace s
  /-- The bytes of the candidate have been delivered. -/
  delivered : s.st.inCandidate = true → s.pos ≤ s.stream.length
  /-- FB[o] = In(START + o) for every byte of the candidate read so far (10_state.md R27). -/
  buffer : s.st.inCandidate = true →
    ∀ o, o < s.pos - s.start → frameByte s.fb o = frameAt s.stream s.start o
  /-- CKA and CKB are the sums of R174 over the bytes accumulated so far. -/
  checksum : s.st.checksumLive = true →
    s.cka.toNat = ckaSum (frameAt s.stream s.start) (min (s.pos - s.start) 54) % 256 ∧
    s.ckb.toNat = ckbSum (frameAt s.stream s.start) (min (s.pos - s.start) 54) % 256
  /-- The candidate has passed every check made so far. -/
  checks : ChecksPassed s
  /-- In ACCEPT the frame at START is valid, its header is in the O_ registers, and EV_POS is START
  (R205, R206). -/
  accepted : s.st = .accept → ValidFrameAt s.params s.stream s.start ∧
    HeaderOfFrame s.out (frameAt s.stream s.start) ∧ s.evPos = s.start
  /-- In REJECT, EV_POS is START (R207), and the frame's 56 bytes were delivered. -/
  rejected : s.st = .reject → s.evPos = s.start ∧ s.start + 56 ≤ s.stream.length
  /-- In EXHAUSTED, EV_POS is L (R192). -/
  exhausted : s.st = .exhausted → s.evPos = s.stream.length
  /-- The O_ registers are at reset, or hold values that passed the checks (10_state.md R29). -/
  header : s.out = OutHeader.reset ∨
    (s.out.cls = 0x02 ∧ s.out.id = 0x13 ∧ s.out.len = 48 ∧ s.out.gnss = 0x00 ∧
      selectsL2c s.params s.out.res0 = true)
  /-- CRC_OK is set only when CRC_CALC and CRC_EMB are equal (10_state.md R31). -/
  crc : s.crcOk = true → s.crcCalc = s.crcEmb

/-- The states of every run: from reset, with any parameters bound (70_reset_and_hazards.md R294) and
anything the outside may do. -/
inductive Reachable : State → Prop where
  | reset (p : Params) (inputs : List Input) :
      Reachable { State.reset with params := p, inputs := inputs }
  | step {s t : State} : Reachable s → Sys2Proof.Machine.step s = .next t → Reachable t

/-! ## Runs with a host that acknowledges every frame event -/

/-- The state after the host's ACK (44_control.md R244). -/
def hostAck (s : State) : State :=
  match exec .ack s with
  | .next t => t
  | .fault _ => s
  | .refused _ => s

/-- One FSU step, and the host's ACK at once when it posts FRAME_ACCEPTED or CHECKSUM_MISMATCH
(43_frame_sync.md R212). -/
def ackedFsuStep (s : State) : State :=
  let t := (fsuStep s).getD s
  if t.st = .accept ∨ t.st = .reject then hostAck t else t

/-- n FSU steps, with the host's ACKs between them. -/
def ackedRun : Nat → State → State
  | 0, s => s
  | n + 1, s => ackedRun n (ackedFsuStep s)

/-- How many FSU steps a run over the stream delivered so far can still take (43_frame_sync.md
R212): 57 for each index not yet tried as a start, what the candidate under way still needs, and the
exhausting step. -/
def fsuBudget (s : State) : Nat :=
  match s.st with
  | .seekingSync1 => 57 * (s.stream.length - s.pos) + 1
  | .seekingSync2 => 57 * (s.stream.length - (s.start + 1)) + (s.start + 57 - s.pos) + 1
  | .readingHeader => 57 * (s.stream.length - (s.start + 1)) + (s.start + 57 - s.pos) + 1
  | .readingPayload => 57 * (s.stream.length - (s.start + 1)) + (s.start + 57 - s.pos) + 1
  | .validating => 57 * (s.stream.length - (s.start + 1)) + (s.start + 57 - s.pos) + 1
  | .accept => 57 * (s.stream.length - s.pos) + 1
  | .reject => 57 * (s.stream.length - s.pos) + 1
  | .exhausted => 0

/-! ## Dead storage -/

/-- Two states that differ only in frame-buffer bytes not yet written for the candidate under way,
and in accumulators that the next SYNC2 match will clear (10_state.md R27, 43_frame_sync.md R203). -/
def SameButDeadStorage (s t : State) : Prop :=
  t = { s with fb := t.fb, cka := t.cka, ckb := t.ckb } ∧
  (s.st.inCandidate = true →
    ∀ o, o < s.pos - s.start → frameByte s.fb o = frameByte t.fb o) ∧
  (s.st.checksumLive = true → s.cka = t.cka ∧ s.ckb = t.ckb)

/-! ## Results of commands -/

/-- The value-producing commands: those whose result goes to RES (10_state.md R32). -/
def producesValue : Instr → Bool
  | .nop => false
  | .extract _ _ => true
  | .concat _ => true
  | .sext _ _ => true
  | .scale _ _ => true
  | .field _ _ _ _ _ => true
  | .crc24q _ => true
  | .crcchk => true
  | .loadw _ => false
  | .ack => false
  | .reservedAB _ => false
  | .reservedCF _ => false

/-- Presenting the word w raises RESERVED_BITS and does nothing else (30_encoding.md R101,
60_exceptions.md R262). -/
def RaisesReservedBits (w : Word) : Prop :=
  ∀ (a b : Wide) (s : State),
    commandTurn w a b s =
      .next { s with portA := a, portB := b, res := 0, cerr := .reservedBits }

/-- RES after the command i with the operands a and b. -/
def resultOf (i : Instr) (a b : Wide) (s : State) : Wide :=
  match exec i (s.presentOperands a b) with
  | .next t => t.res
  | .fault _ => 0
  | .refused _ => 0

/-! ## Binary64 (00_scope.md R10) -/

/-- The pattern is a finite number: its exponent field is not all ones. -/
def binary64Finite (b : Wide) : Prop := (b.extractLsb' 52 11).toNat ≠ 2047

/-- The number that a finite binary64 pattern stands for. -/
def binary64Value (b : Wide) : ℚ :=
  let sign : ℚ := if b.getLsbD 63 then -1 else 1
  let exponent := (b.extractLsb' 52 11).toNat
  let fraction := (b.extractLsb' 0 52).toNat
  if exponent = 0 then
    sign * fraction * (2 : ℚ) ^ (-1074 : ℤ)
  else
    sign * (2 ^ 52 + fraction) * (2 : ℚ) ^ ((exponent : ℤ) - 1075)

/-- r is the binary64 value nearest x, with ties to even (rne64 of R10): no finite value is nearer,
and where another one is as near, r's significand is even. -/
def RoundsToNearestEven (x : ℚ) (r : Wide) : Prop :=
  binary64Finite r ∧
  ∀ y : Wide, binary64Finite y →
    |binary64Value r - x| ≤ |binary64Value y - x| ∧
    (|binary64Value y - x| = |binary64Value r - x| →
      binary64Value y = binary64Value r ∨ r.getLsbD 0 = false)

end Sys2Proof.Machine
end

