-- ==== Sys2Proof/Certificates/Slice0/Obligations.lean ====
section
/-! DEFINITION. The statements about the machine, for the provers. OBLIGATIONS.json says of each which
rule of spec/ it formalises; a statement marked derived there rests on an inference of the spec or
on a choice of the model, and its docstring says so. -/

open Sys2Proof Sys2Proof.Machine

/-! ## Encoding and decoding -/

/-- Decoding the word of a command gives the command back, with every field at every value. The spec
marks the totality of decoding (30_encoding.md R105) as its own inference. -/
def Obligations.DecodeInvertsEncode : Prop :=
  ∀ i : Instr, decode (encode i) = .ok i

/-- Every word the decoder accepts is the word of the command it gives: each word has one meaning
(30_encoding.md R105, the spec's own inference). -/
def Obligations.AcceptedWordIsItsEncoding : Prop :=
  ∀ (w : Word) (i : Instr), decode w = .ok i → encode i = w

/-- The decoder rejects a word exactly when its operation code is assigned and a bit of the format's
RMASK (44_control.md R241) is set. That FIELD's E is checked by its meaning is log 9. -/
def Obligations.DecoderRejectsExactlyReservedBits : Prop :=
  ∀ w : Word,
    decode w = .error .reservedBits ↔
      w.toNat / 2 ^ 28 < 10 ∧
        w &&& ([0x0FFFFFFF, 0x0003FFFF, 0x001FFFFF, 0x000FFFFF, 0x0007FFFF, 0x00000007,
          0x0007FFFF, 0x0FFFFFFF, 0x00FFFFFF, 0x0FFFFFFF].getD (w.toNat / 2 ^ 28) 0 : Word) ≠ 0

/-- Command words of the spec's worked examples decode to the commands they stand for (40_bitfield.md
R124 to R128, 41_crc24q.md R155, R156, 44_control.md R242 to R244). The last two words have reserved
operation codes (30_encoding.md R101), which the spec calls no commands; that they decode to a
constructor with the bits below the code is the model's (log 10). -/
def Obligations.WorkedCommandWordsDecode : Prop :=
  decode 0x00000000 = .ok .nop ∧
  decode 0x122C0000 = .ok (.extract 4 11) ∧
  decode 0x20800000 = .ok (.concat 4) ∧
  decode 0x30B00000 = .ok (.sext 5 .c64) ∧
  decode 0x30A00000 = .ok (.sext 5 .c32) ∧
  decode 0x4F780000 = .ok (.scale 0xF7 true) ∧
  decode 0x528B3FB8 = .ok (.field 81 25 true true 0xF7) ∧
  decode 0x62400000 = .ok (.crc24q 72) ∧
  decode 0x70000000 = .ok .crcchk ∧
  decode 0x80000000 = .ok (.loadw 0) ∧
  decode 0x90000000 = .ok .ack ∧
  decode 0xBA000000 = .ok (.reservedAB 0x1A000000) ∧
  decode 0xFFFFFFFF = .ok (.reservedCF 0x3FFFFFFF)

/-- A step at which the host presents a command runs exactly the meaning of the decoded command, on the
state whose ports hold the operands presented. The list of inputs and the ports are the model's
(log 1, log 5). -/
def Obligations.StepRunsPresentedCommand : Prop :=
  ∀ (s : State) (cmd : Word) (a b : Wide) (rest : List Input) (i : Instr),
    s.inputs = .command cmd a b :: rest → decode cmd = .ok i →
    step s = exec i { s with inputs := rest, portA := a, portB := b }

/-- A step at which the host presents a word with a reserved bit set raises RESERVED_BITS and does
nothing else (30_encoding.md R101, 60_exceptions.md R262). -/
def Obligations.StepRaisesReservedBits : Prop :=
  ∀ (s : State) (cmd : Word) (a b : Wide) (rest : List Input),
    s.inputs = .command cmd a b :: rest → decode cmd = .error .reservedBits →
    step s = .next { s with
      inputs := rest, portA := a, portB := b, res := 0, cerr := .reservedBits }

/-- A table word placed for the next step is run by it as the command that the decoder reads, on the
state as it was. How a command comes to be presented is the model's (log 6). -/
def Obligations.PlacedWordRunsNext : Prop :=
  ∀ (s : State) (nbits w : Nat) (i : Instr),
    decodeTableWord nbits w = some i → step (s.withFetchWord nbits w) = exec i s

/-- The command unit checks a command in the order of 44_control.md R241: reserved operation code,
reserved bits, FIELD's E, BUSY, NO_EVENT, and last the ranges; the first failing check decides, and
a command that fails none runs its rule with CERR = OK. The operands presented stand in the port
fields of State (log 5). -/
def Obligations.CommandUnitDecodeOrder : Prop :=
  ∀ (s : State) (cmd : Word) (a b : Wide),
    let op := cmd.toNat / 2 ^ 28
    let slice := fun lo len : Nat => cmd.toNat / 2 ^ lo % 2 ^ len
    let rmask : List Word := [0x0FFFFFFF, 0x0003FFFF, 0x001FFFFF, 0x000FFFFF, 0x0007FFFF, 0x00000007,
      0x0007FFFF, 0x0FFFFFFF, 0x00FFFFFF, 0x0FFFFFFF]
    let raises := fun code : CmdError =>
      commandTurn cmd a b s =
        .next { s with portA := a, portB := b, res := 0, cerr := code }
    let outOfRange :=
      (op = 0x1 ∧ slice 18 5 < slice 23 5) ∨
      (op = 0x2 ∧ 63 < slice 21 7) ∨
      (op = 0x3 ∧ (slice 21 7 = 0 ∨ (if slice 20 1 = 1 then 64 else 32) < slice 21 7)) ∨
      (op = 0x5 ∧ 320 < slice 19 9 + (slice 13 6 + 1)) ∨
      (op = 0x6 ∧ 320 < slice 19 9) ∨
      (op = 0x8 ∧ 9 < slice 24 4)
    if 10 ≤ op then raises .illegalOp
    else if cmd &&& rmask.getD op 0 ≠ 0 then raises .reservedBits
    else if op = 0x5 ∧ slice 11 1 = 0 ∧ slice 3 8 ≠ 0 then raises .reservedBits
    else if op = 0x8 ∧ ¬(s.st = .accept ∨ s.st = .reject ∨ s.st = .exhausted) then raises .busy
    else if op = 0x9 ∧ s.ev = .none then raises .noEvent
    else if outOfRange then raises .range
    else ∃ (i : Instr) (t : State), decode cmd = .ok i ∧
      commandTurn cmd a b s = exec i { s with portA := a, portB := b } ∧
      exec i { s with portA := a, portB := b } = .next t ∧ t.cerr = .ok

/-! ## The commands -/

/-- NOP sets CERR to OK and changes nothing else; its one encoding is the zero word (44_control.md
R242, 30_encoding.md R100). -/
def Obligations.NopClearsCerr : Prop :=
  (∀ s : State, exec .nop s = .next { s with cerr := .ok }) ∧
  decode 0x00000000 = .ok .nop ∧
  (∀ w : Word, w.toNat / 2 ^ 28 = 0x0 → w.toNat % 2 ^ 28 ≠ 0 → RaisesReservedBits w)

/-- EXTRACT puts bits START..END (MSB-0) of A[31:0] into RES, right-justified, and refuses START > END
(40_bitfield.md R120, R124, 30_encoding.md R91). -/
def Obligations.ExtractReturnsBitRange : Prop :=
  (∀ (s : State) (first last : BitVec 5), first.toNat ≤ last.toNat →
    ∃ r : Wide, exec (.extract first last) s = .next { s with res := r, cerr := .ok } ∧
      ∀ j < 64, r.getLsbD j =
        (decide (j ≤ last.toNat - first.toNat) && s.portA.getLsbD (31 - last.toNat + j))) ∧
  (∀ (s : State) (first last : BitVec 5), last.toNat < first.toNat →
    exec (.extract first last) s = .next { s with res := 0, cerr := .range }) ∧
  (∀ first last : BitVec 5,
    decode (BitVec.ofNat 32 (0x1 * 2 ^ 28 + first.toNat * 2 ^ 23 + last.toNat * 2 ^ 18)) =
      .ok (.extract first last)) ∧
  (∀ w : Word, w.toNat / 2 ^ 28 = 0x1 → w.toNat % 2 ^ 18 ≠ 0 → RaisesReservedBits w)

/-- CONCAT puts wrap_64(A * 2^LW) OR B into RES, B unmasked; where B is below 2^LW that is the sum
mod 2^64; LW above 63 is refused (40_bitfield.md R121, R125, 30_encoding.md R92). -/
def Obligations.ConcatJoinsHighAndLow : Prop :=
  (∀ (s : State) (lw : BitVec 7), lw.toNat ≤ 63 →
    ∃ r : Wide, exec (.concat lw) s = .next { s with res := r, cerr := .ok } ∧
      (∀ j < 64, r.getLsbD j =
        ((decide (lw.toNat ≤ j) && s.portA.getLsbD (j - lw.toNat)) || s.portB.getLsbD j)) ∧
      (s.portB.toNat < 2 ^ lw.toNat →
        r.toNat = (s.portA.toNat * 2 ^ lw.toNat + s.portB.toNat) % 2 ^ 64)) ∧
  (∀ (s : State) (lw : BitVec 7), 63 < lw.toNat →
    exec (.concat lw) s = .next { s with res := 0, cerr := .range }) ∧
  (∀ lw : BitVec 7,
    decode (BitVec.ofNat 32 (0x2 * 2 ^ 28 + lw.toNat * 2 ^ 21)) = .ok (.concat lw)) ∧
  (∀ w : Word, w.toNat / 2 ^ 28 = 0x2 → w.toNat % 2 ^ 21 ≠ 0 → RaisesReservedBits w)

/-- SEXT copies the low TW bits of A, fills the container above them with bit TW-1, and leaves zero
above the container; TW = 0 and TW above the container are refused (40_bitfield.md R122, R126,
30_encoding.md R93). -/
def Obligations.SextFillsWithSignBit : Prop :=
  (∀ (s : State) (tw : BitVec 7) (cw : Container), 1 ≤ tw.toNat → tw.toNat ≤ cw.width →
    ∃ r : Wide, exec (.sext tw cw) s = .next { s with res := r, cerr := .ok } ∧
      ∀ j < 64, r.getLsbD j =
        if j < tw.toNat then s.portA.getLsbD j
        else if j < cw.width then s.portA.getLsbD (tw.toNat - 1)
        else false) ∧
  (∀ (s : State) (tw : BitVec 7) (cw : Container), tw.toNat = 0 ∨ cw.width < tw.toNat →
    exec (.sext tw cw) s = .next { s with res := 0, cerr := .range }) ∧
  (Container.c32.width = 32 ∧ Container.c64.width = 64) ∧
  (∀ tw : BitVec 7,
    decode (BitVec.ofNat 32 (0x3 * 2 ^ 28 + tw.toNat * 2 ^ 21)) = .ok (.sext tw .c32) ∧
    decode (BitVec.ofNat 32 (0x3 * 2 ^ 28 + tw.toNat * 2 ^ 21 + 2 ^ 20)) = .ok (.sext tw .c64)) ∧
  (∀ w : Word, w.toNat / 2 ^ 28 = 0x3 → w.toNat % 2 ^ 20 ≠ 0 → RaisesReservedBits w)

/-- SCALE puts into RES the binary64 value nearest A * 2^E, ties to even, and +0.0 for zero. E is two's
complement; A is signed or unsigned by SG (40_bitfield.md R127, 30_encoding.md R94). -/
def Obligations.ScaleRoundsToNearestEven : Prop :=
  (∀ (s : State) (e : BitVec 8) (sg : Bool),
    let v : Int := if sg then s.portA.toInt else (s.portA.toNat : Int)
    ∃ r : Wide, exec (.scale e sg) s = .next { s with res := r, cerr := .ok } ∧
      RoundsToNearestEven ((v : ℚ) * (2 : ℚ) ^ e.toInt) r ∧
      (v = 0 → r = 0)) ∧
  (∀ (e : BitVec 8) (sg : Bool),
    decode (BitVec.ofNat 32 (0x4 * 2 ^ 28 + e.toNat * 2 ^ 20 + sg.toNat * 2 ^ 19)) =
      .ok (.scale e sg)) ∧
  (∀ w : Word, w.toNat / 2 ^ 28 = 0x4 → w.toNat % 2 ^ 19 ≠ 0 → RaisesReservedBits w)

/-- Scaling a nonzero integer of the block's range gives a normal number, and an exact one where the
integer is below 2^53: consequences that the spec draws itself in 40_bitfield.md R123. -/
def Obligations.ScaleIsNormalAndExactWhenSmall : Prop :=
  ∀ v e : Int, v ≠ 0 → v.natAbs ≤ 2 ^ 64 → -128 ≤ e → e ≤ 127 →
    0 < ((scaleBits v e).extractLsb' 52 11).toNat ∧
    ((scaleBits v e).extractLsb' 52 11).toNat < 2047 ∧
    (v.natAbs < 2 ^ 53 → binary64Value (scaleBits v e) = (v : ℚ) * (2 : ℚ) ^ e)

/-- FIELD with SC = 0 puts W = WM1 + 1 stream bits from P into RES, zero- or sign-extended; with SC = 1
the binary64 value nearest that integer times 2^E. E not 0 with SC = 0 is refused first, then
P + W > 320 (40_bitfield.md R128, 30_encoding.md R95). -/
def Obligations.FieldReadsMessageStream : Prop :=
  (∀ (s : State) (p : BitVec 9) (wm1 : BitVec 6) (sg : Bool), p.toNat + (wm1.toNat + 1) ≤ 320 →
    ∃ r : Wide, exec (.field p wm1 sg false 0) s = .next { s with res := r, cerr := .ok } ∧
      ∀ j < 64, r.getLsbD j =
        if j ≤ wm1.toNat then sbit s.pw (p.toNat + wm1.toNat - j)
        else sg && sbit s.pw p.toNat) ∧
  (∀ (s : State) (p : BitVec 9) (wm1 : BitVec 6) (sg : Bool) (e : BitVec 8),
    p.toNat + (wm1.toNat + 1) ≤ 320 →
    let f : Nat := ∑ j ∈ Finset.range (wm1.toNat + 1),
      (sbit s.pw (p.toNat + j)).toNat * 2 ^ (wm1.toNat - j)
    let v : Int := if sg && sbit s.pw p.toNat then (f : Int) - 2 ^ (wm1.toNat + 1) else (f : Int)
    ∃ r : Wide, exec (.field p wm1 sg true e) s = .next { s with res := r, cerr := .ok } ∧
      RoundsToNearestEven ((v : ℚ) * (2 : ℚ) ^ e.toInt) r ∧ (v = 0 → r = 0)) ∧
  (∀ (s : State) (p : BitVec 9) (wm1 : BitVec 6) (sg sc : Bool) (e : BitVec 8),
    (sc = true ∨ e = 0) → 320 < p.toNat + (wm1.toNat + 1) →
    exec (.field p wm1 sg sc e) s = .next { s with res := 0, cerr := .range }) ∧
  (∀ (p : BitVec 9) (wm1 : BitVec 6) (sg sc : Bool) (e : BitVec 8),
    let w := BitVec.ofNat 32 (0x5 * 2 ^ 28 + p.toNat * 2 ^ 19 + wm1.toNat * 2 ^ 13 +
      sg.toNat * 2 ^ 12 + sc.toNat * 2 ^ 11 + e.toNat * 2 ^ 3)
    (sc = true ∨ e = 0 → decode w = .ok (.field p wm1 sg sc e)) ∧
    (sc = false → e ≠ 0 → RaisesReservedBits w)) ∧
  (∀ w : Word, w.toNat / 2 ^ 28 = 0x5 → w.toNat % 2 ^ 3 ≠ 0 → RaisesReservedBits w)

/-- FIELD over a word boundary gives the same RES as EXTRACT of each part, CONCAT, then SEXT when
signed, then SCALE when scaled. The spec marks this law (40_bitfield.md R129) as its own inference. -/
def Obligations.FieldIsCompositionOfPrimitives : Prop :=
  ∀ (s : State) (k first l : Nat) (wm1 : BitVec 6) (p : BitVec 9) (e : BitVec 8),
    k ≤ 8 → first ≤ 31 → 1 ≤ l → l ≤ 32 →
    wm1.toNat + 1 = (32 - first) + l → p.toNat = 32 * k + first →
    let w := BitVec.ofNat 7 (wm1.toNat + 1)
    let high := resultOf (.extract (BitVec.ofNat 5 first) 31) ((payloadWord s.pw k).setWidth 64) 0 s
    let low := resultOf (.extract 0 (BitVec.ofNat 5 (l - 1)))
      ((payloadWord s.pw (k + 1)).setWidth 64) 0 s
    let joined := resultOf (.concat (BitVec.ofNat 7 l)) high low s
    let extended := resultOf (.sext w .c64) joined 0 s
    resultOf (.field p wm1 false false 0) 0 0 s = joined ∧
    resultOf (.field p wm1 true false 0) 0 0 s = extended ∧
    resultOf (.field p wm1 false true e) 0 0 s = resultOf (.scale e false) joined 0 s ∧
    resultOf (.field p wm1 true true e) 0 0 s = resultOf (.scale e true) extended 0 s

/-- CRC24Q puts into RES the value of the bit-serial register after the first N stream bits, starting
from 0, and refuses N > 320 (41_crc24q.md R150, R155, 30_encoding.md R96). -/
def Obligations.Crc24qRunsBitSerialRegister : Prop :=
  (∀ (s : State) (n : BitVec 9), n.toNat ≤ 320 →
    ∃ c : Nat → Nat, c 0 = 0 ∧
      (∀ i < n.toNat, c (i + 1) =
        if (decide (c i / 2 ^ 23 % 2 = 1) != sbit s.pw i) = true
        then c i * 2 % 2 ^ 24 ^^^ 0x864CFB else c i * 2 % 2 ^ 24) ∧
      exec (.crc24q n) s = .next { s with res := BitVec.ofNat 64 (c n.toNat), cerr := .ok }) ∧
  (∀ (s : State) (n : BitVec 9), 320 < n.toNat →
    exec (.crc24q n) s = .next { s with res := 0, cerr := .range }) ∧
  (∀ n : BitVec 9,
    decode (BitVec.ofNat 32 (0x6 * 2 ^ 28 + n.toNat * 2 ^ 19)) = .ok (.crc24q n)) ∧
  (∀ w : Word, w.toNat / 2 ^ 28 = 0x6 → w.toNat % 2 ^ 19 ≠ 0 → RaisesReservedBits w)

/-- CRCCHK puts the computed CRC in RES[23:0], the embedded CRC (stream bits 276 to 299) in RES[47:24],
their agreement in RES[48] and zero above, and writes no CRC register (41_crc24q.md R156,
30_encoding.md R97). -/
def Obligations.CrcchkReturnsMessageCheck : Prop :=
  (∀ s : State,
    let cc := (crc24qOf s.pw 276).toNat
    let ce := ∑ j ∈ Finset.range 24, (sbit s.pw (276 + j)).toNat * 2 ^ (23 - j)
    ∃ r : Wide, exec .crcchk s = .next { s with res := r, cerr := .ok } ∧
      r.toNat % 2 ^ 24 = cc ∧ r.toNat / 2 ^ 24 % 2 ^ 24 = ce ∧
      r.toNat / 2 ^ 48 = if cc = ce then 1 else 0) ∧
  decode 0x70000000 = .ok .crcchk ∧
  (∀ w : Word, w.toNat / 2 ^ 28 = 0x7 → w.toNat % 2 ^ 28 ≠ 0 → RaisesReservedBits w)

/-- LOADW in a hold state writes A[31:0] to PW[K] and to no other word, leaves RES and the CRC registers
alone, is BUSY outside a hold state whatever K is, and refuses K > 9 in one (44_control.md R243,
30_encoding.md R98). -/
def Obligations.LoadwWritesOnePayloadWord : Prop :=
  (∀ (s : State) (k : BitVec 4), (s.st = .accept ∨ s.st = .reject ∨ s.st = .exhausted) →
    k.toNat ≤ 9 →
    ∃ pw : Vector Word 10, exec (.loadw k) s = .next { s with pw := pw, cerr := .ok } ∧
      ∀ j : Fin 10, pw[j] = if j.val = k.toNat then s.portA.setWidth 32 else s.pw[j]) ∧
  (∀ (s : State) (k : BitVec 4), ¬(s.st = .accept ∨ s.st = .reject ∨ s.st = .exhausted) →
    exec (.loadw k) s = .next { s with res := 0, cerr := .busy }) ∧
  (∀ (s : State) (k : BitVec 4), (s.st = .accept ∨ s.st = .reject ∨ s.st = .exhausted) →
    9 < k.toNat → exec (.loadw k) s = .next { s with res := 0, cerr := .range }) ∧
  (∀ k : BitVec 4,
    decode (BitVec.ofNat 32 (0x8 * 2 ^ 28 + k.toNat * 2 ^ 24)) = .ok (.loadw k)) ∧
  (∀ w : Word, w.toNat / 2 ^ 28 = 0x8 → w.toNat % 2 ^ 24 ≠ 0 → RaisesReservedBits w)

/-- ACK of FRAME_ACCEPTED or CHECKSUM_MISMATCH clears EV and sends ST to SEEKING_SYNC1, and leaves POS
and EV_POS; of STREAM_EXHAUSTED it changes only CERR; with no event it raises NO_EVENT
(44_control.md R244, 30_encoding.md R99). -/
def Obligations.AckReleasesHold : Prop :=
  (∀ s : State, s.ev = .frameAccepted ∨ s.ev = .checksumMismatch →
    exec .ack s = .next { s with ev := .none, st := .seekingSync1, cerr := .ok }) ∧
  (∀ s : State, s.ev = .streamExhausted → exec .ack s = .next { s with cerr := .ok }) ∧
  (∀ s : State, s.ev = .none → exec .ack s = .next { s with res := 0, cerr := .noEvent }) ∧
  decode 0x90000000 = .ok .ack ∧
  (∀ w : Word, w.toNat / 2 ^ 28 = 0x9 → w.toNat % 2 ^ 28 ≠ 0 → RaisesReservedBits w)

/-- A reserved operation code raises ILLEGAL_OP whatever its other bits, and does nothing else
(30_encoding.md R101, point 1). That a reserved code is a constructor of its own is log 10. -/
def Obligations.ReservedOpsRaiseIllegalOp : Prop :=
  (∀ (s : State) (low : BitVec 29),
    exec (.reservedAB low) s = .next { s with res := 0, cerr := .illegalOp }) ∧
  (∀ (s : State) (low : BitVec 30),
    exec (.reservedCF low) s = .next { s with res := 0, cerr := .illegalOp }) ∧
  (∀ w : Word, 10 ≤ w.toNat / 2 ^ 28 → w.toNat / 2 ^ 28 < 12 →
    ∃ low, decode w = .ok (.reservedAB low)) ∧
  (∀ w : Word, 12 ≤ w.toNat / 2 ^ 28 → ∃ low, decode w = .ok (.reservedCF low))

/-- The update rule of RES and CERR (44_control.md R245) and precise errors (60_exceptions.md R262): a
command always completes in its step; an error gives RES = 0 and its code and changes no other
register; a value-producing command that succeeds changes only RES and CERR; NOP, LOADW and ACK that
succeed leave RES. -/
def Obligations.ResultAndErrorUpdateRule : Prop :=
  ∀ (s : State) (cmd : Word) (a b : Wide), ∃ t, commandTurn cmd a b s = .next t ∧
    (t.cerr ≠ .ok → t = { s with portA := a, portB := b, res := 0, cerr := t.cerr }) ∧
    (t.cerr = .ok → ∃ i, decode cmd = .ok i ∧
      (producesValue i = true →
        t = { s with portA := a, portB := b, res := t.res, cerr := .ok }) ∧
      (producesValue i = false → t.res = s.res))

/-- The host writes state only through commands: PW by LOADW alone, EV and ST by ACK alone, and
otherwise only RES and CERR (10_state.md R34, R35). -/
def Obligations.CommandsWriteOnlyTheirRegisters : Prop :=
  ∀ (i : Instr) (s t : State), exec i s = .next t →
    t = { s with st := t.st, ev := t.ev, pw := t.pw, res := t.res, cerr := t.cerr } ∧
    ((∀ k, i ≠ .loadw k) → t.pw = s.pw) ∧
    (i ≠ .ack → t.st = s.st ∧ t.ev = s.ev)

/-- A command succeeds in a hold state with its event pending exactly when its fields are legal by
30_encoding.md R101: no legal command is refused there and no illegal one runs. The predicate is the
model's WellFormed. -/
def Obligations.LegalCommandsSucceedInHold : Prop :=
  ∀ (i : Instr) (s : State), s.st.isHold = true → s.ev ≠ .none →
    ∃ t, exec i s = .next t ∧ (t.cerr = .ok ↔ i.wellFormed = true)

/-! ## The message stream and its CRC -/

/-- Stream bit 32k+p is the bit at MSB-first position p of PW[k], and a field of width w is the sum of
its bits with the first one most significant (00_scope.md R9). -/
def Obligations.MessageFieldIsBitSum : Prop :=
  ∀ pw : Vector Word 10,
    (∀ (k : Fin 10) (p : Nat), p < 32 → sbit pw (32 * k.val + p) = pw[k].getLsbD (31 - p)) ∧
    (∀ p w : Nat, 1 ≤ w → p + w ≤ 320 →
      sfield pw p w = ∑ j ∈ Finset.range w, (sbit pw (p + j)).toNat * 2 ^ (w - 1 - j))

/-- The embedded CRC is PW[8][11:0] followed by PW[9][31:20] (30_encoding.md R86, 41_crc24q.md R153). -/
def Obligations.EmbeddedCrcSpansLastTwoWords : Prop :=
  ∀ pw : Vector Word 10,
    (embeddedCrc pw).toNat = pw[8].toNat % 2 ^ 12 * 2 ^ 12 + pw[9].toNat / 2 ^ 20

open Polynomial in
/-- The CRC of the first n bits is the remainder of M(x)·x^24 by the generator polynomial over GF(2).
The spec marks this form (41_crc24q.md R151) as its own inference from the bit-serial register. -/
def Obligations.CrcIsPolynomialRemainder : Prop :=
  ∀ (pw : Vector Word 10) (n : Nat), n ≤ 320 →
    (∑ i ∈ Finset.range 24, if (crc24qOf pw n).getLsbD i then (X : (ZMod 2)[X]) ^ i else 0) =
      ((∑ i ∈ Finset.range n, if sbit pw i then (X : (ZMod 2)[X]) ^ (n - 1 - i) else 0) * X ^ 24) %ₘ
        (X ^ 24 + X ^ 23 + X ^ 18 + X ^ 17 + X ^ 14 + X ^ 11 + X ^ 10 + X ^ 7 + X ^ 6 + X ^ 5 +
          X ^ 4 + X ^ 3 + X + 1)

/-- The CRC over the message and its own embedded CRC is zero exactly when the message check holds: a
consequence that the spec draws in 41_crc24q.md R151. -/
def Obligations.CrcResidueZeroIffCheckHolds : Prop :=
  ∀ pw : Vector Word 10, crc24qOf pw 300 = 0 ↔ computedCrc pw = embeddedCrc pw

/-- Inverting any one bit of the checked range changes the CRC: a consequence that the spec draws in
41_crc24q.md R152. -/
def Obligations.CheckedBitFlipChangesCrc : Prop :=
  ∀ (pw : Vector Word 10) (n i : Nat) (hi : i < n) (hn : n ≤ 320),
    crc24qOf (pw.set (i / 32) (pw[i / 32] ^^^ (1#32 <<< (31 - i % 32)))) n ≠ crc24qOf pw n

/-- An exponent field is the 8-bit two's-complement number of its bits, between -128 and 127; the
factors the source names have the fields that 30_encoding.md R102 lists. -/
def Obligations.ExponentFieldIsTwosComplement : Prop :=
  (∀ e : BitVec 8, -128 ≤ exponentOf e ∧ exponentOf e ≤ 127 ∧
    (exponentOf e = e.toNat ∨ exponentOf e = (e.toNat : Int) - 256)) ∧
  exponentOf 0xF7 = -9 ∧ exponentOf 0xEB = -21 ∧ exponentOf 0xDE = -34 ∧ exponentOf 0xE0 = -32 ∧
  exponentOf 0xFA = -6 ∧ exponentOf 0x09 = 9

/-- The pseudo-instructions assemble to the commands of their expansions (30_encoding.md R104). The
lines stand here with their operands as numbers; the text is AssemblerTextOfExamples. -/
def Obligations.PseudoInstructionsExpand : Prop :=
  (∀ p : BitVec 5, (AsmLine.bit p.toNat).assemble = some (.extract p p)) ∧
  AsmLine.word.assemble = some (.extract 0 31) ∧
  (∀ tw : BitVec 7, (AsmLine.sext32 tw.toNat).assemble = some (.sext tw .c32)) ∧
  (∀ tw : BitVec 7, (AsmLine.sext64 tw.toNat).assemble = some (.sext tw .c64)) ∧
  (∀ (p : BitVec 9) (wm1 : BitVec 6) (signed : Bool),
    (AsmLine.fieldI p.toNat (wm1.toNat + 1) signed).assemble =
      some (.field p wm1 signed false 0)) ∧
  (∀ (p : BitVec 9) (wm1 : BitVec 6) (signed : Bool) (e : BitVec 8),
    (AsmLine.fieldF p.toNat (wm1.toNat + 1) signed e.toInt).assemble =
      some (.field p wm1 signed true e)) ∧
  AsmLine.msgCrc.assemble = some (.field 276 23 false false 0) ∧
  AsmLine.crc276.assemble = some (.crc24q 276) ∧
  AsmLine.clrErr.assemble = some .nop

/-- The assembler lines of the spec's examples (30_encoding.md R103, R104) give the command words and
port values that the spec gives them; a missing port operand is 0. What the text may hold besides is
log 13. -/
def Obligations.AssemblerTextOfExamples : Prop :=
  let ports := fun text : String => [Char.ofNat 0x7B] ++ text.toList ++ [Char.ofNat 0x7D]
  assembleText ("EXTRACT 4, 11 ".toList ++ ports "A=0xDEADBEEF") =
    some (.command 0x122C0000 0xDEADBEEF 0) ∧
  assembleText ("CONCAT 4 ".toList ++ ports "A=0x2, B=0x1F") =
    some (.command 0x20800000 0x2 0x1F) ∧
  assembleText ("SEXT 5, c32 ".toList ++ ports "A=0x10") =
    some (.command 0x30A00000 0x10 0) ∧
  assembleText ("SCALE -9, s ".toList ++ ports "A=0xFFFFFFFFFFFFFC18") =
    some (.command 0x4F780000 0xFFFFFFFFFFFFFC18 0) ∧
  assembleText "FIELD 81, 26, s, -9".toList = some (.command 0x528B3FB8 0 0) ∧
  assembleText "FIELDI 81, 26, s".toList = some (.command 0x528B3000 0 0) ∧
  assembleText "MSGCRC".toList = some (.command 0x58A2E000 0 0) ∧
  assembleText "CRC276".toList = some (.command 0x68A00000 0 0) ∧
  assembleText ("LOADW 0 ".toList ++ ports "A=0x31323334") =
    some (.command 0x80000000 0x31323334 0) ∧
  assembleText "ACK".toList = some (.command 0x90000000 0 0) ∧
  assembleText "CLRERR".toList = some (.command 0x00000000 0 0)

/-! ## The frame synchronizer -/

/-- When it is the FSU's turn the machine takes the FSU's step, and where the FSU has none it changes
nothing. Whose turn it is, and the turn without effect, are the model's (log 1, log 2). -/
def Obligations.FsuTurnTakesFsuStep : Prop :=
  (∀ (s : State) (rest : List Input), s.inputs = .fsu :: rest →
    step s = .next ((fsuStep { s with inputs := rest }).getD { s with inputs := rest })) ∧
  (∀ s : State, s.inputs = [] → step s = .next ((fsuStep s).getD s))

/-- The FSU has a step exactly outside the hold states, but for a consuming state whose next byte a
live stream has not delivered (43_frame_sync.md R191, 20_memory.md R75). -/
def Obligations.FsuStepEnabledExactly : Prop :=
  ∀ s : State, (fsuStep s).isSome = true ↔
    s.st = .validating ∨
    ((s.st = .seekingSync1 ∨ s.st = .seekingSync2 ∨ s.st = .readingHeader ∨
      s.st = .readingPayload) ∧ (s.pos < s.stream.length ∨ s.ended = true))

/-- A consuming step at or past the end mark posts STREAM_EXHAUSTED with EV_POS = L, enters EXHAUSTED,
and changes nothing else (43_frame_sync.md R192). -/
def Obligations.EndOfStreamPostsExhausted : Prop :=
  ∀ s : State,
    (s.st = .seekingSync1 ∨ s.st = .seekingSync2 ∨ s.st = .readingHeader ∨
      s.st = .readingPayload) →
    s.ended = true → s.stream.length ≤ s.pos →
    fsuStep s = some { s with
      st := .exhausted, ev := .streamExhausted, evPos := s.stream.length }

/-- The steps of SEEKING_SYNC1 and SEEKING_SYNC2 on the byte x read (43_frame_sync.md R194, R195). -/
def Obligations.SyncSearchSteps : Prop :=
  ∀ (s : State) (x : Byte), s.stream[s.pos]? = some x →
    (s.st = .seekingSync1 → x = 0xB5 → fsuStep s = some { s with
      pos := s.pos + 1, start := s.pos, fb := s.fb.set 0 x, st := .seekingSync2 }) ∧
    (s.st = .seekingSync1 → x ≠ 0xB5 → fsuStep s = some { s with pos := s.pos + 1 }) ∧
    (s.st = .seekingSync2 → x = 0x62 → fsuStep s = some { s with
      pos := s.pos + 1, fb := s.fb.set 1 x, cka := 0, ckb := 0, st := .readingHeader }) ∧
    (s.st = .seekingSync2 → x ≠ 0x62 → fsuStep s = some { s with
      pos := s.start + 1, st := .seekingSync1 })

/-- A READING_HEADER step stores and accumulates the byte at its offset o, then tests class and id at
offset 3 and the filter at offset 13; a failure rewinds, or skips under SKIP_DECLARED
(43_frame_sync.md R198 to R202). -/
def Obligations.HeaderByteStep : Prop :=
  ∀ (s : State) (x : Byte), s.st = .readingHeader → s.stream[s.pos]? = some x →
    s.start + 2 ≤ s.pos → s.pos ≤ s.start + 13 →
    let o := s.pos - s.start
    let fb := s.fb.setIfInBounds o x
    let byte := frameByte fb
    let len := (byte 4).toNat + 256 * (byte 5).toNat
    let read : State := { s with
      pos := s.pos + 1, fb := fb, cka := s.cka + x, ckb := s.ckb + (s.cka + x) }
    let rewound : State := { read with pos := s.start + 1, st := .seekingSync1 }
    byte o = x ∧
    (o ≠ 3 → o ≠ 13 → fsuStep s = some read) ∧
    (o = 3 → byte 2 = 0x02 ∧ byte 3 = 0x13 → fsuStep s = some read) ∧
    (o = 3 → ¬(byte 2 = 0x02 ∧ byte 3 = 0x13) → fsuStep s = some rewound) ∧
    (o = 13 → FilterAccepts s.params byte →
      fsuStep s = some { read with st := .readingPayload }) ∧
    (o = 13 → ¬FilterAccepts s.params byte → s.params.filterPolicy = .rescan →
      fsuStep s = some rewound) ∧
    (o = 13 → ¬FilterAccepts s.params byte → s.params.filterPolicy = .skipDeclared →
      fsuStep s = some { read with pos := s.start + 8 + len, st := .seekingSync1 })

/-- A READING_PAYLOAD step stores the byte at its offset, accumulates it up to offset 53, and goes to
VALIDATING at offset 55 (43_frame_sync.md R204). -/
def Obligations.PayloadByteStep : Prop :=
  ∀ (s : State) (x : Byte), s.st = .readingPayload → s.stream[s.pos]? = some x →
    s.start + 14 ≤ s.pos → s.pos ≤ s.start + 55 →
    let o := s.pos - s.start
    let read : State := { s with pos := s.pos + 1, fb := s.fb.setIfInBounds o x }
    frameByte read.fb o = x ∧
    (o ≤ 53 → fsuStep s = some { read with cka := s.cka + x, ckb := s.ckb + (s.cka + x) }) ∧
    (o = 54 → fsuStep s = some read) ∧
    (o = 55 → fsuStep s = some { read with st := .validating, pos := s.start + 56 })

/-- The VALIDATING step accepts exactly when CK_A, and under STRICT also CK_B, equal the accumulators:
it then loads every O_ register, the ten words in the wire order and the message check, all at once,
and posts FRAME_ACCEPTED; otherwise it posts CHECKSUM_MISMATCH and rewinds (42_envelope_checksum.md
R173, 43_frame_sync.md R205, R206, 41_crc24q.md R154). -/
def Obligations.ValidatingStepDecides : Prop :=
  ∀ s : State, s.st = .validating →
    let byte := frameByte s.fb
    let agrees := byte 54 = s.cka ∧ (s.params.ckMode = .strict → byte 55 = s.ckb)
    let wire := fun k j : Nat => (byte (14 + 4 * k + j)).toNat
    (agrees → ∃ (out : OutHeader) (pw : Vector Word 10) (emb : Crc),
      fsuStep s = some { s with
        out := out, pw := pw, crcCalc := crc24qOf pw 276, crcEmb := emb,
        crcOk := decide (crc24qOf pw 276 = emb),
        ev := .frameAccepted, evPos := s.start, st := .accept } ∧
      HeaderOfFrame out byte ∧
      emb.toNat = ∑ j ∈ Finset.range 24, (sbit pw (276 + j)).toNat * 2 ^ (23 - j) ∧
      (∀ k : Fin 10, s.params.wordWireOrder = .msbFirst → pw[k].toNat =
        wire k 0 * 2 ^ 24 + wire k 1 * 2 ^ 16 + wire k 2 * 2 ^ 8 + wire k 3) ∧
      (∀ k : Fin 10, s.params.wordWireOrder = .lsbFirst → pw[k].toNat =
        wire k 3 * 2 ^ 24 + wire k 2 * 2 ^ 16 + wire k 1 * 2 ^ 8 + wire k 0)) ∧
    (¬agrees → fsuStep s = some { s with
      ev := .checksumMismatch, evPos := s.start, st := .reject, pos := s.start + 1 })

/-- No FSU step writes RES or CERR (60_exceptions.md R267, the spec's own inference), the parameters
(10_state.md R36) or the stream (20_memory.md R60); only a step into ACCEPT writes an accepted-frame
register (10_state.md R29, 43_frame_sync.md R206); and EV changes only with a move of ST into a hold
state (43_frame_sync.md R196). The ports and the list of inputs, which also stay, are the model's
(log 5, log 1). -/
def Obligations.FsuStepsLeaveHostRegisters : Prop :=
  ∀ s t : State, fsuStep s = some t →
    (t.res = s.res ∧ t.cerr = s.cerr ∧ t.params = s.params ∧ t.stream = s.stream ∧
      t.ended = s.ended ∧ t.portA = s.portA ∧ t.portB = s.portB ∧ t.inputs = s.inputs) ∧
    (t.st ≠ .accept → t.out = s.out ∧ t.pw = s.pw ∧ t.crcCalc = s.crcCalc ∧
      t.crcEmb = s.crcEmb ∧ t.crcOk = s.crcOk) ∧
    (t.st.isHold = false → t.ev = s.ev ∧ t.evPos = s.evPos) ∧
    (t.st.isHold = true → t.ev = heldEvent t.st)

/-- A sync-2 mismatch, a class or id mismatch and a filter failure are silent: an FSU step that returns
to SEEKING_SYNC1 changes only ST, POS, START, FB, CKA and CKB (43_frame_sync.md R209, 60_exceptions.md
R265). -/
def Obligations.RejectionsAreSilent : Prop :=
  ∀ s t : State, fsuStep s = some t → t.st = .seekingSync1 →
    t = { s with st := .seekingSync1, pos := t.pos, fb := t.fb, cka := t.cka, ckb := t.ckb }

/-- Every step keeps the invariant of the frame synchronizer: EV agrees with ST, the cursor and the
buffer stand where the state says, the accumulators hold the sums of R174, the candidate has passed
its checks, and an accepted frame is valid. It gathers inferences of the spec: 10_state.md R24, R27,
R29, 42_envelope_checksum.md R174, 43_frame_sync.md R207. -/
def Obligations.StepKeepsFsuInvariant : Prop :=
  ∀ s t : State, FsuInv s → step s = .next t → FsuInv t

/-- The invariant of the frame synchronizer holds right after reset, with any parameters and inputs
(70_reset_and_hazards.md R291; the outside's part is the model's, log 1 and log 7). -/
def Obligations.ResetMeetsFsuInvariant : Prop :=
  ∀ (p : Params) (inputs : List Input),
    FsuInv { State.reset with params := p, inputs := inputs }

/-- In every run, with any parameters, any stream and any interleaving, a frame in ACCEPT is 56 bytes of
the stream that pass the sync, class, id, filter and envelope checks, and the O_ registers and EV_POS
are that frame's (30_encoding.md R80, 43_frame_sync.md R205, R206, taken together: an inference). -/
def Obligations.AcceptedFramesAreValid : Prop :=
  ∀ s : State, Reachable s → s.st = .accept →
    ValidFrameAt s.params s.stream s.start ∧ HeaderOfFrame s.out (frameAt s.stream s.start) ∧
      s.evPos = s.start ∧ s.pos = s.start + 56

/-- Under RESCAN no valid frame is missed: from SEEKING_SYNC1 at or before it, the FSU accepts it, or
first accepts a frame that overlaps it. The host here acknowledges every event at once. The spec
marks the guarantee (43_frame_sync.md R211) as its own inference. -/
def Obligations.RescanFindsEveryValidFrame : Prop :=
  ∀ (s : State) (f : Nat), FsuInv s → s.params.filterPolicy = .rescan → s.st = .seekingSync1 →
    s.pos ≤ f → ValidFrameAt s.params s.stream f →
    ∃ (n : Nat) (t : State) (g : Nat), fsuStep (ackedRun n s) = some t ∧
      t.st = .accept ∧ t.ev = .frameAccepted ∧ t.evPos = g ∧
      (g = f ∨ (s.pos ≤ g ∧ g < f ∧ f < g + 56))

/-- Over a finite stream of L bytes, the FSU reaches EXHAUSTED after at most 57·L + 1 of its steps, under
any parameters. The host here acknowledges every frame event at once and issues nothing else. The
spec marks the bound (43_frame_sync.md R212) as its own inference. -/
def Obligations.ScanTerminates : Prop :=
  ∀ (p : Params) (bytes : List Byte),
    ∃ n ≤ 57 * bytes.length + 1,
      (ackedRun n { State.reset with params := p, stream := bytes, ended := true }).st = .exhausted

/-- Every FSU step lowers the budget of steps, which is 0 only in
EXHAUSTED: the count behind 43_frame_sync.md R212, the spec's own inference. -/
def Obligations.FsuStepSpendsBudget : Prop :=
  ∀ s t : State, FsuInv s → fsuStep s = some t →
    fsuBudget t < fsuBudget s ∧ (fsuBudget t = 0 ↔ t.st = .exhausted)

/-- After a clear, accumulating any bytes gives CKA their sum and CKB the sum with the weights n, n-1,
…, 1, both mod 256: the closed form that the spec derives in 42_envelope_checksum.md R174. -/
def Obligations.ChecksumClosedForm : Prop :=
  ∀ (s : State) (bytes : List Byte),
    let t := bytes.foldl State.ecuUpdate s.ecuClear
    t = { s with cka := t.cka, ckb := t.ckb } ∧
    t.cka.toNat = (∑ i ∈ Finset.range bytes.length, (bytes.getD i 0).toNat) % 256 ∧
    t.ckb.toNat =
      (∑ i ∈ Finset.range bytes.length, (bytes.length - i) * (bytes.getD i 0).toNat) % 256

/-- The FSU does not accept a candidate that differs from a valid frame in one byte at an offset 2 to
53, under both values of CK_MODE: no FSU step of it enters ACCEPT, and where the whole candidate has
been read, the VALIDATING step rejects it and posts CHECKSUM_MISMATCH. The spec derives the property
in 42_envelope_checksum.md R175. -/
def Obligations.ChangedByteIsNotAccepted : Prop :=
  ∀ (s : State) (frame : List Byte) (o : Nat), FsuInv s → ValidFrameAt s.params frame 0 →
    2 ≤ o → o ≤ 53 →
    (∀ j < 56, j ≠ o → frameAt s.stream s.start j = frameAt frame 0 j) →
    frameAt s.stream s.start o ≠ frameAt frame 0 o →
    (∀ t, fsuStep s = some t → t.st ≠ .accept) ∧
    (s.st = .validating → ∃ t, fsuStep s = some t ∧
      t.st = .reject ∧ t.ev = .checksumMismatch ∧ t.evPos = s.start ∧ t.pos = s.start + 1)

/-- The cursor goes back at most 55 bytes, and never to START or before (10_state.md R37,
70_reset_and_hazards.md R300, both the spec's own inferences). -/
def Obligations.RewindIsBounded : Prop :=
  ∀ s t : State, FsuInv s → fsuStep s = some t → t.pos < s.pos →
    t.start = s.start ∧ s.start + 1 ≤ t.pos ∧ s.pos ≤ t.pos + 55

/-- Buffer bytes not yet written for the candidate under way, and dead accumulators, are never observed:
two states that differ only in them step to states that differ only in them, and every host-visible
register reads the same (10_state.md R27 and R34, 43_frame_sync.md R203; R27's claim is the spec's own
inference). -/
def Obligations.DeadStorageIsUnobservable : Prop :=
  ∀ s t s' : State, FsuInv s → SameButDeadStorage s t → step s = .next s' →
    ∃ t', step t = .next t' ∧ SameButDeadStorage s' t' ∧ ∀ r, readPort s' r = readPort t' r

/-! ## The handshake, reset and the whole machine -/

/-- Between the post of a frame event and its ACK, nothing but a reset changes ST, EV, EV_POS, POS, the
O_ registers or the CRC registers, and only a LOADW changes PW: whatever the FSU's turn, the producer
or any other command does (43_frame_sync.md R197, 20_memory.md R72, the latter the spec's own
inference). -/
def Obligations.HeldFrameIsStable : Prop :=
  ∀ s t : State, s.st = .accept ∨ s.st = .reject →
    (∀ (rebind : Option Params) (rest : List Input), s.inputs ≠ .reset rebind :: rest) →
    (∀ (a b : Wide) (rest : List Input), s.inputs ≠ .command 0x90000000 a b :: rest) →
    step s = .next t →
    t.st = s.st ∧ t.ev = s.ev ∧ t.evPos = s.evPos ∧ t.pos = s.pos ∧ t.start = s.start ∧
      t.out = s.out ∧ t.crcCalc = s.crcCalc ∧ t.crcEmb = s.crcEmb ∧ t.crcOk = s.crcOk ∧
      ((∀ (cmd : Word) (a b : Wide) (rest : List Input) (k : BitVec 4),
        s.inputs = .command cmd a b :: rest → decode cmd ≠ .ok (.loadw k)) → t.pw = s.pw)

/-- EXHAUSTED with its event is left by nothing but a reset, and the stream cannot grow in it
(43_frame_sync.md R197, R210, 44_control.md R244). That bytes after the end mark are dropped is
log 7. -/
def Obligations.ExhaustedIsTerminal : Prop :=
  ∀ s t : State, FsuInv s → s.st = .exhausted →
    (∀ (rebind : Option Params) (rest : List Input), s.inputs ≠ .reset rebind :: rest) →
    step s = .next t →
    t.st = .exhausted ∧ t.ev = .streamExhausted ∧ t.evPos = s.stream.length ∧ t.pos = s.pos ∧
      t.stream = s.stream

/-- EV_PENDING is high exactly in the hold states (10_state.md R24, R26, 60_exceptions.md R268), in the
states that the invariant allows. -/
def Obligations.EventLineIsHighExactlyInHold : Prop :=
  ∀ s : State, FsuInv s → (s.evPending = true ↔ s.st = .accept ∨ s.st = .reject ∨ s.st = .exhausted)

/-- No step of the machine ends in a fault or a refusal (60_exceptions.md R260, R266). -/
def Obligations.EveryStepAnswersNext : Prop :=
  ∀ s : State, ∃ t, step s = .next t

/-- Reset gives every register its value of 70_reset_and_hazards.md R291, whatever the state was; CRC_OK
is then 0 while CRCCHK on the zero words reports agreement. That a step at a reset input is this
reset is a statement of its own, ResetStartsNewRun. -/
def Obligations.ResetStepClearsEveryRegister : Prop :=
  ∀ (s : State) (rebind : Option Params),
    ∃ t, resetTurn rebind s = .next t ∧
      t.st = .seekingSync1 ∧ t.pos = 0 ∧ t.start = 0 ∧ t.ev = .none ∧ t.evPending = false ∧
      t.evPos = 0 ∧ (∀ o < 56, frameByte t.fb o = 0) ∧ t.cka = 0 ∧ t.ckb = 0 ∧
      t.out = ⟨0, 0, 0, 0, 0, 0, 0, 0, 0, 0, 0, 0, 0⟩ ∧ (∀ k : Fin 10, t.pw[k] = 0) ∧
      t.crcCalc = 0 ∧ t.crcEmb = 0 ∧ t.crcOk = false ∧ t.res = 0 ∧ t.cerr = .ok ∧
      exec .crcchk t = .next { t with res := 0x0001000000000000, cerr := .ok }

/-- Reset starts a new run over a new stream, none of which is delivered yet; the parameters stay unless
new ones are bound with it, and the inputs still to come stay (70_reset_and_hazards.md R290, R292; how
the outside stands in State is the model's: log 1, log 4, log 7). -/
def Obligations.ResetStartsNewRun : Prop :=
  ∀ (s : State) (rebind : Option Params) (rest : List Input),
    s.inputs = .reset rebind :: rest →
    ∃ t, step s = .next t ∧ step s = resetTurn rebind { s with inputs := rest } ∧
      t.stream = [] ∧ t.ended = false ∧ t.inputs = rest ∧
      (rebind = none → t.params = s.params) ∧ (∀ p, rebind = some p → t.params = p)

/-- The parameters change only at a reset that binds new ones (10_state.md R36, 70_reset_and_hazards.md
R292). That State carries them, and the reset that binds, are the model's (log 3, log 4). -/
def Obligations.ParametersChangeOnlyAtReset : Prop :=
  ∀ s t : State, step s = .next t →
    t.params = s.params ∨ ∃ p rest, s.inputs = .reset (some p) :: rest ∧ t.params = p

/-- Nothing in the block writes the input stream: but for a reset, every byte delivered stays at its
index, only the producer adds bytes, and none after the end mark (20_memory.md R60; that later bytes
are dropped is log 7). -/
def Obligations.StreamGrowsOnlyByProducer : Prop :=
  ∀ s t : State, (∀ (rebind : Option Params) (rest : List Input), s.inputs ≠ .reset rebind :: rest) →
    step s = .next t →
    (∃ more, t.stream = s.stream ++ more) ∧
    (s.ended = true → t.stream = s.stream ∧ t.ended = true) ∧
    ((∀ (bytes : List Byte) (rest : List Input), s.inputs ≠ .deliver bytes :: rest) →
      t.stream = s.stream)
end

