-- ==== Sys2Proof/Laws/State.lean ====
section
/-! SUPPORT. For each named update of the state, one lemma per field: what the update leaves in it.
With these no later proof unfolds a record update. -/

namespace Sys2Proof.Machine

/-! ### State.raiseCmdError -/

@[simp] theorem State.raiseCmdError_st (s : State) (code : CmdError) :
    (s.raiseCmdError code).st = s.st := rfl
@[simp] theorem State.raiseCmdError_pos (s : State) (code : CmdError) :
    (s.raiseCmdError code).pos = s.pos := rfl
@[simp] theorem State.raiseCmdError_start (s : State) (code : CmdError) :
    (s.raiseCmdError code).start = s.start := rfl
@[simp] theorem State.raiseCmdError_ev (s : State) (code : CmdError) :
    (s.raiseCmdError code).ev = s.ev := rfl
@[simp] theorem State.raiseCmdError_evPos (s : State) (code : CmdError) :
    (s.raiseCmdError code).evPos = s.evPos := rfl
@[simp] theorem State.raiseCmdError_fb (s : State) (code : CmdError) :
    (s.raiseCmdError code).fb = s.fb := rfl
@[simp] theorem State.raiseCmdError_cka (s : State) (code : CmdError) :
    (s.raiseCmdError code).cka = s.cka := rfl
@[simp] theorem State.raiseCmdError_ckb (s : State) (code : CmdError) :
    (s.raiseCmdError code).ckb = s.ckb := rfl
@[simp] theorem State.raiseCmdError_out (s : State) (code : CmdError) :
    (s.raiseCmdError code).out = s.out := rfl
@[simp] theorem State.raiseCmdError_pw (s : State) (code : CmdError) :
    (s.raiseCmdError code).pw = s.pw := rfl
@[simp] theorem State.raiseCmdError_crcCalc (s : State) (code : CmdError) :
    (s.raiseCmdError code).crcCalc = s.crcCalc := rfl
@[simp] theorem State.raiseCmdError_crcEmb (s : State) (code : CmdError) :
    (s.raiseCmdError code).crcEmb = s.crcEmb := rfl
@[simp] theorem State.raiseCmdError_crcOk (s : State) (code : CmdError) :
    (s.raiseCmdError code).crcOk = s.crcOk := rfl
@[simp] theorem State.raiseCmdError_res (s : State) (code : CmdError) :
    (s.raiseCmdError code).res = 0 := rfl
@[simp] theorem State.raiseCmdError_cerr (s : State) (code : CmdError) :
    (s.raiseCmdError code).cerr = code := rfl
@[simp] theorem State.raiseCmdError_params (s : State) (code : CmdError) :
    (s.raiseCmdError code).params = s.params := rfl
@[simp] theorem State.raiseCmdError_stream (s : State) (code : CmdError) :
    (s.raiseCmdError code).stream = s.stream := rfl
@[simp] theorem State.raiseCmdError_ended (s : State) (code : CmdError) :
    (s.raiseCmdError code).ended = s.ended := rfl
@[simp] theorem State.raiseCmdError_portA (s : State) (code : CmdError) :
    (s.raiseCmdError code).portA = s.portA := rfl
@[simp] theorem State.raiseCmdError_portB (s : State) (code : CmdError) :
    (s.raiseCmdError code).portB = s.portB := rfl
@[simp] theorem State.raiseCmdError_inputs (s : State) (code : CmdError) :
    (s.raiseCmdError code).inputs = s.inputs := rfl

/-! ### State.succeedWith -/

@[simp] theorem State.succeedWith_st (s : State) (v : Wide) : (s.succeedWith v).st = s.st := rfl
@[simp] theorem State.succeedWith_pos (s : State) (v : Wide) : (s.succeedWith v).pos = s.pos := rfl
@[simp] theorem State.succeedWith_start (s : State) (v : Wide) :
    (s.succeedWith v).start = s.start := rfl
@[simp] theorem State.succeedWith_ev (s : State) (v : Wide) : (s.succeedWith v).ev = s.ev := rfl
@[simp] theorem State.succeedWith_evPos (s : State) (v : Wide) :
    (s.succeedWith v).evPos = s.evPos := rfl
@[simp] theorem State.succeedWith_fb (s : State) (v : Wide) : (s.succeedWith v).fb = s.fb := rfl
@[simp] theorem State.succeedWith_cka (s : State) (v : Wide) : (s.succeedWith v).cka = s.cka := rfl
@[simp] theorem State.succeedWith_ckb (s : State) (v : Wide) : (s.succeedWith v).ckb = s.ckb := rfl
@[simp] theorem State.succeedWith_out (s : State) (v : Wide) : (s.succeedWith v).out = s.out := rfl
@[simp] theorem State.succeedWith_pw (s : State) (v : Wide) : (s.succeedWith v).pw = s.pw := rfl
@[simp] theorem State.succeedWith_crcCalc (s : State) (v : Wide) :
    (s.succeedWith v).crcCalc = s.crcCalc := rfl
@[simp] theorem State.succeedWith_crcEmb (s : State) (v : Wide) :
    (s.succeedWith v).crcEmb = s.crcEmb := rfl
@[simp] theorem State.succeedWith_crcOk (s : State) (v : Wide) :
    (s.succeedWith v).crcOk = s.crcOk := rfl
@[simp] theorem State.succeedWith_res (s : State) (v : Wide) : (s.succeedWith v).res = v := rfl
@[simp] theorem State.succeedWith_cerr (s : State) (v : Wide) : (s.succeedWith v).cerr = .ok := rfl
@[simp] theorem State.succeedWith_params (s : State) (v : Wide) :
    (s.succeedWith v).params = s.params := rfl
@[simp] theorem State.succeedWith_stream (s : State) (v : Wide) :
    (s.succeedWith v).stream = s.stream := rfl
@[simp] theorem State.succeedWith_ended (s : State) (v : Wide) :
    (s.succeedWith v).ended = s.ended := rfl
@[simp] theorem State.succeedWith_portA (s : State) (v : Wide) :
    (s.succeedWith v).portA = s.portA := rfl
@[simp] theorem State.succeedWith_portB (s : State) (v : Wide) :
    (s.succeedWith v).portB = s.portB := rfl
@[simp] theorem State.succeedWith_inputs (s : State) (v : Wide) :
    (s.succeedWith v).inputs = s.inputs := rfl

/-! ### State.succeed -/

@[simp] theorem State.succeed_st (s : State) : s.succeed.st = s.st := rfl
@[simp] theorem State.succeed_pos (s : State) : s.succeed.pos = s.pos := rfl
@[simp] theorem State.succeed_start (s : State) : s.succeed.start = s.start := rfl
@[simp] theorem State.succeed_ev (s : State) : s.succeed.ev = s.ev := rfl
@[simp] theorem State.succeed_evPos (s : State) : s.succeed.evPos = s.evPos := rfl
@[simp] theorem State.succeed_fb (s : State) : s.succeed.fb = s.fb := rfl
@[simp] theorem State.succeed_cka (s : State) : s.succeed.cka = s.cka := rfl
@[simp] theorem State.succeed_ckb (s : State) : s.succeed.ckb = s.ckb := rfl
@[simp] theorem State.succeed_out (s : State) : s.succeed.out = s.out := rfl
@[simp] theorem State.succeed_pw (s : State) : s.succeed.pw = s.pw := rfl
@[simp] theorem State.succeed_crcCalc (s : State) : s.succeed.crcCalc = s.crcCalc := rfl
@[simp] theorem State.succeed_crcEmb (s : State) : s.succeed.crcEmb = s.crcEmb := rfl
@[simp] theorem State.succeed_crcOk (s : State) : s.succeed.crcOk = s.crcOk := rfl
@[simp] theorem State.succeed_res (s : State) : s.succeed.res = s.res := rfl
@[simp] theorem State.succeed_cerr (s : State) : s.succeed.cerr = .ok := rfl
@[simp] theorem State.succeed_params (s : State) : s.succeed.params = s.params := rfl
@[simp] theorem State.succeed_stream (s : State) : s.succeed.stream = s.stream := rfl
@[simp] theorem State.succeed_ended (s : State) : s.succeed.ended = s.ended := rfl
@[simp] theorem State.succeed_portA (s : State) : s.succeed.portA = s.portA := rfl
@[simp] theorem State.succeed_portB (s : State) : s.succeed.portB = s.portB := rfl
@[simp] theorem State.succeed_inputs (s : State) : s.succeed.inputs = s.inputs := rfl

/-! ### State.writePayloadWord -/

@[simp] theorem State.writePayloadWord_st (s : State) (k : Nat) (w : Word) :
    (s.writePayloadWord k w).st = s.st := rfl
@[simp] theorem State.writePayloadWord_pos (s : State) (k : Nat) (w : Word) :
    (s.writePayloadWord k w).pos = s.pos := rfl
@[simp] theorem State.writePayloadWord_start (s : State) (k : Nat) (w : Word) :
    (s.writePayloadWord k w).start = s.start := rfl
@[simp] theorem State.writePayloadWord_ev (s : State) (k : Nat) (w : Word) :
    (s.writePayloadWord k w).ev = s.ev := rfl
@[simp] theorem State.writePayloadWord_evPos (s : State) (k : Nat) (w : Word) :
    (s.writePayloadWord k w).evPos = s.evPos := rfl
@[simp] theorem State.writePayloadWord_fb (s : State) (k : Nat) (w : Word) :
    (s.writePayloadWord k w).fb = s.fb := rfl
@[simp] theorem State.writePayloadWord_cka (s : State) (k : Nat) (w : Word) :
    (s.writePayloadWord k w).cka = s.cka := rfl
@[simp] theorem State.writePayloadWord_ckb (s : State) (k : Nat) (w : Word) :
    (s.writePayloadWord k w).ckb = s.ckb := rfl
@[simp] theorem State.writePayloadWord_out (s : State) (k : Nat) (w : Word) :
    (s.writePayloadWord k w).out = s.out := rfl
@[simp] theorem State.writePayloadWord_pw (s : State) (k : Nat) (w : Word) :
    (s.writePayloadWord k w).pw = s.pw.setIfInBounds k w := rfl
@[simp] theorem State.writePayloadWord_crcCalc (s : State) (k : Nat) (w : Word) :
    (s.writePayloadWord k w).crcCalc = s.crcCalc := rfl
@[simp] theorem State.writePayloadWord_crcEmb (s : State) (k : Nat) (w : Word) :
    (s.writePayloadWord k w).crcEmb = s.crcEmb := rfl
@[simp] theorem State.writePayloadWord_crcOk (s : State) (k : Nat) (w : Word) :
    (s.writePayloadWord k w).crcOk = s.crcOk := rfl
@[simp] theorem State.writePayloadWord_res (s : State) (k : Nat) (w : Word) :
    (s.writePayloadWord k w).res = s.res := rfl
@[simp] theorem State.writePayloadWord_cerr (s : State) (k : Nat) (w : Word) :
    (s.writePayloadWord k w).cerr = s.cerr := rfl
@[simp] theorem State.writePayloadWord_params (s : State) (k : Nat) (w : Word) :
    (s.writePayloadWord k w).params = s.params := rfl
@[simp] theorem State.writePayloadWord_stream (s : State) (k : Nat) (w : Word) :
    (s.writePayloadWord k w).stream = s.stream := rfl
@[simp] theorem State.writePayloadWord_ended (s : State) (k : Nat) (w : Word) :
    (s.writePayloadWord k w).ended = s.ended := rfl
@[simp] theorem State.writePayloadWord_portA (s : State) (k : Nat) (w : Word) :
    (s.writePayloadWord k w).portA = s.portA := rfl
@[simp] theorem State.writePayloadWord_portB (s : State) (k : Nat) (w : Word) :
    (s.writePayloadWord k w).portB = s.portB := rfl
@[simp] theorem State.writePayloadWord_inputs (s : State) (k : Nat) (w : Word) :
    (s.writePayloadWord k w).inputs = s.inputs := rfl

/-! ### State.post -/

@[simp] theorem State.post_st (s : State) (kind : Event) (index : Nat) :
    (s.post kind index).st = s.st := rfl
@[simp] theorem State.post_pos (s : State) (kind : Event) (index : Nat) :
    (s.post kind index).pos = s.pos := rfl
@[simp] theorem State.post_start (s : State) (kind : Event) (index : Nat) :
    (s.post kind index).start = s.start := rfl
@[simp] theorem State.post_ev (s : State) (kind : Event) (index : Nat) :
    (s.post kind index).ev = kind := rfl
@[simp] theorem State.post_evPos (s : State) (kind : Event) (index : Nat) :
    (s.post kind index).evPos = index := rfl
@[simp] theorem State.post_fb (s : State) (kind : Event) (index : Nat) :
    (s.post kind index).fb = s.fb := rfl
@[simp] theorem State.post_cka (s : State) (kind : Event) (index : Nat) :
    (s.post kind index).cka = s.cka := rfl
@[simp] theorem State.post_ckb (s : State) (kind : Event) (index : Nat) :
    (s.post kind index).ckb = s.ckb := rfl
@[simp] theorem State.post_out (s : State) (kind : Event) (index : Nat) :
    (s.post kind index).out = s.out := rfl
@[simp] theorem State.post_pw (s : State) (kind : Event) (index : Nat) :
    (s.post kind index).pw = s.pw := rfl
@[simp] theorem State.post_crcCalc (s : State) (kind : Event) (index : Nat) :
    (s.post kind index).crcCalc = s.crcCalc := rfl
@[simp] theorem State.post_crcEmb (s : State) (kind : Event) (index : Nat) :
    (s.post kind index).crcEmb = s.crcEmb := rfl
@[simp] theorem State.post_crcOk (s : State) (kind : Event) (index : Nat) :
    (s.post kind index).crcOk = s.crcOk := rfl
@[simp] theorem State.post_res (s : State) (kind : Event) (index : Nat) :
    (s.post kind index).res = s.res := rfl
@[simp] theorem State.post_cerr (s : State) (kind : Event) (index : Nat) :
    (s.post kind index).cerr = s.cerr := rfl
@[simp] theorem State.post_params (s : State) (kind : Event) (index : Nat) :
    (s.post kind index).params = s.params := rfl
@[simp] theorem State.post_stream (s : State) (kind : Event) (index : Nat) :
    (s.post kind index).stream = s.stream := rfl
@[simp] theorem State.post_ended (s : State) (kind : Event) (index : Nat) :
    (s.post kind index).ended = s.ended := rfl
@[simp] theorem State.post_portA (s : State) (kind : Event) (index : Nat) :
    (s.post kind index).portA = s.portA := rfl
@[simp] theorem State.post_portB (s : State) (kind : Event) (index : Nat) :
    (s.post kind index).portB = s.portB := rfl
@[simp] theorem State.post_inputs (s : State) (kind : Event) (index : Nat) :
    (s.post kind index).inputs = s.inputs := rfl

/-! ### State.enterEvent -/

@[simp] theorem State.enterEvent_st (s : State) (kind : Event) (index : Nat) (hold : FsuState) :
    (s.enterEvent kind index hold).st = hold := rfl
@[simp] theorem State.enterEvent_pos (s : State) (kind : Event) (index : Nat) (hold : FsuState) :
    (s.enterEvent kind index hold).pos = s.pos := rfl
@[simp] theorem State.enterEvent_start (s : State) (kind : Event) (index : Nat) (hold : FsuState) :
    (s.enterEvent kind index hold).start = s.start := rfl
@[simp] theorem State.enterEvent_ev (s : State) (kind : Event) (index : Nat) (hold : FsuState) :
    (s.enterEvent kind index hold).ev = kind := rfl
@[simp] theorem State.enterEvent_evPos (s : State) (kind : Event) (index : Nat) (hold : FsuState) :
    (s.enterEvent kind index hold).evPos = index := rfl
@[simp] theorem State.enterEvent_fb (s : State) (kind : Event) (index : Nat) (hold : FsuState) :
    (s.enterEvent kind index hold).fb = s.fb := rfl
@[simp] theorem State.enterEvent_cka (s : State) (kind : Event) (index : Nat) (hold : FsuState) :
    (s.enterEvent kind index hold).cka = s.cka := rfl
@[simp] theorem State.enterEvent_ckb (s : State) (kind : Event) (index : Nat) (hold : FsuState) :
    (s.enterEvent kind index hold).ckb = s.ckb := rfl
@[simp] theorem State.enterEvent_out (s : State) (kind : Event) (index : Nat) (hold : FsuState) :
    (s.enterEvent kind index hold).out = s.out := rfl
@[simp] theorem State.enterEvent_pw (s : State) (kind : Event) (index : Nat) (hold : FsuState) :
    (s.enterEvent kind index hold).pw = s.pw := rfl
@[simp] theorem State.enterEvent_crcCalc (s : State) (kind : Event) (index : Nat) (hold : FsuState) :
    (s.enterEvent kind index hold).crcCalc = s.crcCalc := rfl
@[simp] theorem State.enterEvent_crcEmb (s : State) (kind : Event) (index : Nat) (hold : FsuState) :
    (s.enterEvent kind index hold).crcEmb = s.crcEmb := rfl
@[simp] theorem State.enterEvent_crcOk (s : State) (kind : Event) (index : Nat) (hold : FsuState) :
    (s.enterEvent kind index hold).crcOk = s.crcOk := rfl
@[simp] theorem State.enterEvent_res (s : State) (kind : Event) (index : Nat) (hold : FsuState) :
    (s.enterEvent kind index hold).res = s.res := rfl
@[simp] theorem State.enterEvent_cerr (s : State) (kind : Event) (index : Nat) (hold : FsuState) :
    (s.enterEvent kind index hold).cerr = s.cerr := rfl
@[simp] theorem State.enterEvent_params (s : State) (kind : Event) (index : Nat) (hold : FsuState) :
    (s.enterEvent kind index hold).params = s.params := rfl
@[simp] theorem State.enterEvent_stream (s : State) (kind : Event) (index : Nat) (hold : FsuState) :
    (s.enterEvent kind index hold).stream = s.stream := rfl
@[simp] theorem State.enterEvent_ended (s : State) (kind : Event) (index : Nat) (hold : FsuState) :
    (s.enterEvent kind index hold).ended = s.ended := rfl
@[simp] theorem State.enterEvent_portA (s : State) (kind : Event) (index : Nat) (hold : FsuState) :
    (s.enterEvent kind index hold).portA = s.portA := rfl
@[simp] theorem State.enterEvent_portB (s : State) (kind : Event) (index : Nat) (hold : FsuState) :
    (s.enterEvent kind index hold).portB = s.portB := rfl
@[simp] theorem State.enterEvent_inputs (s : State) (kind : Event) (index : Nat) (hold : FsuState) :
    (s.enterEvent kind index hold).inputs = s.inputs := rfl

/-! ### State.returnFromEvent -/

@[simp] theorem State.returnFromEvent_st (s : State) : s.returnFromEvent.st = .seekingSync1 := rfl
@[simp] theorem State.returnFromEvent_pos (s : State) : s.returnFromEvent.pos = s.pos := rfl
@[simp] theorem State.returnFromEvent_start (s : State) : s.returnFromEvent.start = s.start := rfl
@[simp] theorem State.returnFromEvent_ev (s : State) : s.returnFromEvent.ev = .none := rfl
@[simp] theorem State.returnFromEvent_evPos (s : State) : s.returnFromEvent.evPos = s.evPos := rfl
@[simp] theorem State.returnFromEvent_fb (s : State) : s.returnFromEvent.fb = s.fb := rfl
@[simp] theorem State.returnFromEvent_cka (s : State) : s.returnFromEvent.cka = s.cka := rfl
@[simp] theorem State.returnFromEvent_ckb (s : State) : s.returnFromEvent.ckb = s.ckb := rfl
@[simp] theorem State.returnFromEvent_out (s : State) : s.returnFromEvent.out = s.out := rfl
@[simp] theorem State.returnFromEvent_pw (s : State) : s.returnFromEvent.pw = s.pw := rfl
@[simp] theorem State.returnFromEvent_crcCalc (s : State) :
    s.returnFromEvent.crcCalc = s.crcCalc := rfl
@[simp] theorem State.returnFromEvent_crcEmb (s : State) :
    s.returnFromEvent.crcEmb = s.crcEmb := rfl
@[simp] theorem State.returnFromEvent_crcOk (s : State) : s.returnFromEvent.crcOk = s.crcOk := rfl
@[simp] theorem State.returnFromEvent_res (s : State) : s.returnFromEvent.res = s.res := rfl
@[simp] theorem State.returnFromEvent_cerr (s : State) : s.returnFromEvent.cerr = s.cerr := rfl
@[simp] theorem State.returnFromEvent_params (s : State) :
    s.returnFromEvent.params = s.params := rfl
@[simp] theorem State.returnFromEvent_stream (s : State) :
    s.returnFromEvent.stream = s.stream := rfl
@[simp] theorem State.returnFromEvent_ended (s : State) : s.returnFromEvent.ended = s.ended := rfl
@[simp] theorem State.returnFromEvent_portA (s : State) : s.returnFromEvent.portA = s.portA := rfl
@[simp] theorem State.returnFromEvent_portB (s : State) : s.returnFromEvent.portB = s.portB := rfl
@[simp] theorem State.returnFromEvent_inputs (s : State) :
    s.returnFromEvent.inputs = s.inputs := rfl

/-! ### State.advance -/

@[simp] theorem State.advance_st (s : State) : s.advance.st = s.st := rfl
@[simp] theorem State.advance_pos (s : State) : s.advance.pos = s.pos + 1 := rfl
@[simp] theorem State.advance_start (s : State) : s.advance.start = s.start := rfl
@[simp] theorem State.advance_ev (s : State) : s.advance.ev = s.ev := rfl
@[simp] theorem State.advance_evPos (s : State) : s.advance.evPos = s.evPos := rfl
@[simp] theorem State.advance_fb (s : State) : s.advance.fb = s.fb := rfl
@[simp] theorem State.advance_cka (s : State) : s.advance.cka = s.cka := rfl
@[simp] theorem State.advance_ckb (s : State) : s.advance.ckb = s.ckb := rfl
@[simp] theorem State.advance_out (s : State) : s.advance.out = s.out := rfl
@[simp] theorem State.advance_pw (s : State) : s.advance.pw = s.pw := rfl
@[simp] theorem State.advance_crcCalc (s : State) : s.advance.crcCalc = s.crcCalc := rfl
@[simp] theorem State.advance_crcEmb (s : State) : s.advance.crcEmb = s.crcEmb := rfl
@[simp] theorem State.advance_crcOk (s : State) : s.advance.crcOk = s.crcOk := rfl
@[simp] theorem State.advance_res (s : State) : s.advance.res = s.res := rfl
@[simp] theorem State.advance_cerr (s : State) : s.advance.cerr = s.cerr := rfl
@[simp] theorem State.advance_params (s : State) : s.advance.params = s.params := rfl
@[simp] theorem State.advance_stream (s : State) : s.advance.stream = s.stream := rfl
@[simp] theorem State.advance_ended (s : State) : s.advance.ended = s.ended := rfl
@[simp] theorem State.advance_portA (s : State) : s.advance.portA = s.portA := rfl
@[simp] theorem State.advance_portB (s : State) : s.advance.portB = s.portB := rfl
@[simp] theorem State.advance_inputs (s : State) : s.advance.inputs = s.inputs := rfl

/-! ### State.rewind -/

@[simp] theorem State.rewind_st (s : State) : s.rewind.st = .seekingSync1 := rfl
@[simp] theorem State.rewind_pos (s : State) : s.rewind.pos = s.start + 1 := rfl
@[simp] theorem State.rewind_start (s : State) : s.rewind.start = s.start := rfl
@[simp] theorem State.rewind_ev (s : State) : s.rewind.ev = s.ev := rfl
@[simp] theorem State.rewind_evPos (s : State) : s.rewind.evPos = s.evPos := rfl
@[simp] theorem State.rewind_fb (s : State) : s.rewind.fb = s.fb := rfl
@[simp] theorem State.rewind_cka (s : State) : s.rewind.cka = s.cka := rfl
@[simp] theorem State.rewind_ckb (s : State) : s.rewind.ckb = s.ckb := rfl
@[simp] theorem State.rewind_out (s : State) : s.rewind.out = s.out := rfl
@[simp] theorem State.rewind_pw (s : State) : s.rewind.pw = s.pw := rfl
@[simp] theorem State.rewind_crcCalc (s : State) : s.rewind.crcCalc = s.crcCalc := rfl
@[simp] theorem State.rewind_crcEmb (s : State) : s.rewind.crcEmb = s.crcEmb := rfl
@[simp] theorem State.rewind_crcOk (s : State) : s.rewind.crcOk = s.crcOk := rfl
@[simp] theorem State.rewind_res (s : State) : s.rewind.res = s.res := rfl
@[simp] theorem State.rewind_cerr (s : State) : s.rewind.cerr = s.cerr := rfl
@[simp] theorem State.rewind_params (s : State) : s.rewind.params = s.params := rfl
@[simp] theorem State.rewind_stream (s : State) : s.rewind.stream = s.stream := rfl
@[simp] theorem State.rewind_ended (s : State) : s.rewind.ended = s.ended := rfl
@[simp] theorem State.rewind_portA (s : State) : s.rewind.portA = s.portA := rfl
@[simp] theorem State.rewind_portB (s : State) : s.rewind.portB = s.portB := rfl
@[simp] theorem State.rewind_inputs (s : State) : s.rewind.inputs = s.inputs := rfl

/-! ### State.skipDeclared -/

@[simp] theorem State.skipDeclared_st (s : State) (len : Nat) :
    (s.skipDeclared len).st = .seekingSync1 := rfl
@[simp] theorem State.skipDeclared_pos (s : State) (len : Nat) :
    (s.skipDeclared len).pos = s.start + 8 + len := rfl
@[simp] theorem State.skipDeclared_start (s : State) (len : Nat) :
    (s.skipDeclared len).start = s.start := rfl
@[simp] theorem State.skipDeclared_ev (s : State) (len : Nat) :
    (s.skipDeclared len).ev = s.ev := rfl
@[simp] theorem State.skipDeclared_evPos (s : State) (len : Nat) :
    (s.skipDeclared len).evPos = s.evPos := rfl
@[simp] theorem State.skipDeclared_fb (s : State) (len : Nat) :
    (s.skipDeclared len).fb = s.fb := rfl
@[simp] theorem State.skipDeclared_cka (s : State) (len : Nat) :
    (s.skipDeclared len).cka = s.cka := rfl
@[simp] theorem State.skipDeclared_ckb (s : State) (len : Nat) :
    (s.skipDeclared len).ckb = s.ckb := rfl
@[simp] theorem State.skipDeclared_out (s : State) (len : Nat) :
    (s.skipDeclared len).out = s.out := rfl
@[simp] theorem State.skipDeclared_pw (s : State) (len : Nat) :
    (s.skipDeclared len).pw = s.pw := rfl
@[simp] theorem State.skipDeclared_crcCalc (s : State) (len : Nat) :
    (s.skipDeclared len).crcCalc = s.crcCalc := rfl
@[simp] theorem State.skipDeclared_crcEmb (s : State) (len : Nat) :
    (s.skipDeclared len).crcEmb = s.crcEmb := rfl
@[simp] theorem State.skipDeclared_crcOk (s : State) (len : Nat) :
    (s.skipDeclared len).crcOk = s.crcOk := rfl
@[simp] theorem State.skipDeclared_res (s : State) (len : Nat) :
    (s.skipDeclared len).res = s.res := rfl
@[simp] theorem State.skipDeclared_cerr (s : State) (len : Nat) :
    (s.skipDeclared len).cerr = s.cerr := rfl
@[simp] theorem State.skipDeclared_params (s : State) (len : Nat) :
    (s.skipDeclared len).params = s.params := rfl
@[simp] theorem State.skipDeclared_stream (s : State) (len : Nat) :
    (s.skipDeclared len).stream = s.stream := rfl
@[simp] theorem State.skipDeclared_ended (s : State) (len : Nat) :
    (s.skipDeclared len).ended = s.ended := rfl
@[simp] theorem State.skipDeclared_portA (s : State) (len : Nat) :
    (s.skipDeclared len).portA = s.portA := rfl
@[simp] theorem State.skipDeclared_portB (s : State) (len : Nat) :
    (s.skipDeclared len).portB = s.portB := rfl
@[simp] theorem State.skipDeclared_inputs (s : State) (len : Nat) :
    (s.skipDeclared len).inputs = s.inputs := rfl

/-! ### State.goto -/

@[simp] theorem State.goto_st (s : State) (q : FsuState) : (s.goto q).st = q := rfl
@[simp] theorem State.goto_pos (s : State) (q : FsuState) : (s.goto q).pos = s.pos := rfl
@[simp] theorem State.goto_start (s : State) (q : FsuState) : (s.goto q).start = s.start := rfl
@[simp] theorem State.goto_ev (s : State) (q : FsuState) : (s.goto q).ev = s.ev := rfl
@[simp] theorem State.goto_evPos (s : State) (q : FsuState) : (s.goto q).evPos = s.evPos := rfl
@[simp] theorem State.goto_fb (s : State) (q : FsuState) : (s.goto q).fb = s.fb := rfl
@[simp] theorem State.goto_cka (s : State) (q : FsuState) : (s.goto q).cka = s.cka := rfl
@[simp] theorem State.goto_ckb (s : State) (q : FsuState) : (s.goto q).ckb = s.ckb := rfl
@[simp] theorem State.goto_out (s : State) (q : FsuState) : (s.goto q).out = s.out := rfl
@[simp] theorem State.goto_pw (s : State) (q : FsuState) : (s.goto q).pw = s.pw := rfl
@[simp] theorem State.goto_crcCalc (s : State) (q : FsuState) :
    (s.goto q).crcCalc = s.crcCalc := rfl
@[simp] theorem State.goto_crcEmb (s : State) (q : FsuState) : (s.goto q).crcEmb = s.crcEmb := rfl
@[simp] theorem State.goto_crcOk (s : State) (q : FsuState) : (s.goto q).crcOk = s.crcOk := rfl
@[simp] theorem State.goto_res (s : State) (q : FsuState) : (s.goto q).res = s.res := rfl
@[simp] theorem State.goto_cerr (s : State) (q : FsuState) : (s.goto q).cerr = s.cerr := rfl
@[simp] theorem State.goto_params (s : State) (q : FsuState) : (s.goto q).params = s.params := rfl
@[simp] theorem State.goto_stream (s : State) (q : FsuState) : (s.goto q).stream = s.stream := rfl
@[simp] theorem State.goto_ended (s : State) (q : FsuState) : (s.goto q).ended = s.ended := rfl
@[simp] theorem State.goto_portA (s : State) (q : FsuState) : (s.goto q).portA = s.portA := rfl
@[simp] theorem State.goto_portB (s : State) (q : FsuState) : (s.goto q).portB = s.portB := rfl
@[simp] theorem State.goto_inputs (s : State) (q : FsuState) : (s.goto q).inputs = s.inputs := rfl

/-! ### State.beginCandidate -/

@[simp] theorem State.beginCandidate_st (s : State) (index : Nat) :
    (s.beginCandidate index).st = s.st := rfl
@[simp] theorem State.beginCandidate_pos (s : State) (index : Nat) :
    (s.beginCandidate index).pos = s.pos := rfl
@[simp] theorem State.beginCandidate_start (s : State) (index : Nat) :
    (s.beginCandidate index).start = index := rfl
@[simp] theorem State.beginCandidate_ev (s : State) (index : Nat) :
    (s.beginCandidate index).ev = s.ev := rfl
@[simp] theorem State.beginCandidate_evPos (s : State) (index : Nat) :
    (s.beginCandidate index).evPos = s.evPos := rfl
@[simp] theorem State.beginCandidate_fb (s : State) (index : Nat) :
    (s.beginCandidate index).fb = s.fb := rfl
@[simp] theorem State.beginCandidate_cka (s : State) (index : Nat) :
    (s.beginCandidate index).cka = s.cka := rfl
@[simp] theorem State.beginCandidate_ckb (s : State) (index : Nat) :
    (s.beginCandidate index).ckb = s.ckb := rfl
@[simp] theorem State.beginCandidate_out (s : State) (index : Nat) :
    (s.beginCandidate index).out = s.out := rfl
@[simp] theorem State.beginCandidate_pw (s : State) (index : Nat) :
    (s.beginCandidate index).pw = s.pw := rfl
@[simp] theorem State.beginCandidate_crcCalc (s : State) (index : Nat) :
    (s.beginCandidate index).crcCalc = s.crcCalc := rfl
@[simp] theorem State.beginCandidate_crcEmb (s : State) (index : Nat) :
    (s.beginCandidate index).crcEmb = s.crcEmb := rfl
@[simp] theorem State.beginCandidate_crcOk (s : State) (index : Nat) :
    (s.beginCandidate index).crcOk = s.crcOk := rfl
@[simp] theorem State.beginCandidate_res (s : State) (index : Nat) :
    (s.beginCandidate index).res = s.res := rfl
@[simp] theorem State.beginCandidate_cerr (s : State) (index : Nat) :
    (s.beginCandidate index).cerr = s.cerr := rfl
@[simp] theorem State.beginCandidate_params (s : State) (index : Nat) :
    (s.beginCandidate index).params = s.params := rfl
@[simp] theorem State.beginCandidate_stream (s : State) (index : Nat) :
    (s.beginCandidate index).stream = s.stream := rfl
@[simp] theorem State.beginCandidate_ended (s : State) (index : Nat) :
    (s.beginCandidate index).ended = s.ended := rfl
@[simp] theorem State.beginCandidate_portA (s : State) (index : Nat) :
    (s.beginCandidate index).portA = s.portA := rfl
@[simp] theorem State.beginCandidate_portB (s : State) (index : Nat) :
    (s.beginCandidate index).portB = s.portB := rfl
@[simp] theorem State.beginCandidate_inputs (s : State) (index : Nat) :
    (s.beginCandidate index).inputs = s.inputs := rfl

/-! ### State.storeByte -/

@[simp] theorem State.storeByte_st (s : State) (o : Nat) (x : Byte) :
    (s.storeByte o x).st = s.st := rfl
@[simp] theorem State.storeByte_pos (s : State) (o : Nat) (x : Byte) :
    (s.storeByte o x).pos = s.pos := rfl
@[simp] theorem State.storeByte_start (s : State) (o : Nat) (x : Byte) :
    (s.storeByte o x).start = s.start := rfl
@[simp] theorem State.storeByte_ev (s : State) (o : Nat) (x : Byte) :
    (s.storeByte o x).ev = s.ev := rfl
@[simp] theorem State.storeByte_evPos (s : State) (o : Nat) (x : Byte) :
    (s.storeByte o x).evPos = s.evPos := rfl
@[simp] theorem State.storeByte_fb (s : State) (o : Nat) (x : Byte) :
    (s.storeByte o x).fb = s.fb.setIfInBounds o x := rfl
@[simp] theorem State.storeByte_cka (s : State) (o : Nat) (x : Byte) :
    (s.storeByte o x).cka = s.cka := rfl
@[simp] theorem State.storeByte_ckb (s : State) (o : Nat) (x : Byte) :
    (s.storeByte o x).ckb = s.ckb := rfl
@[simp] theorem State.storeByte_out (s : State) (o : Nat) (x : Byte) :
    (s.storeByte o x).out = s.out := rfl
@[simp] theorem State.storeByte_pw (s : State) (o : Nat) (x : Byte) :
    (s.storeByte o x).pw = s.pw := rfl
@[simp] theorem State.storeByte_crcCalc (s : State) (o : Nat) (x : Byte) :
    (s.storeByte o x).crcCalc = s.crcCalc := rfl
@[simp] theorem State.storeByte_crcEmb (s : State) (o : Nat) (x : Byte) :
    (s.storeByte o x).crcEmb = s.crcEmb := rfl
@[simp] theorem State.storeByte_crcOk (s : State) (o : Nat) (x : Byte) :
    (s.storeByte o x).crcOk = s.crcOk := rfl
@[simp] theorem State.storeByte_res (s : State) (o : Nat) (x : Byte) :
    (s.storeByte o x).res = s.res := rfl
@[simp] theorem State.storeByte_cerr (s : State) (o : Nat) (x : Byte) :
    (s.storeByte o x).cerr = s.cerr := rfl
@[simp] theorem State.storeByte_params (s : State) (o : Nat) (x : Byte) :
    (s.storeByte o x).params = s.params := rfl
@[simp] theorem State.storeByte_stream (s : State) (o : Nat) (x : Byte) :
    (s.storeByte o x).stream = s.stream := rfl
@[simp] theorem State.storeByte_ended (s : State) (o : Nat) (x : Byte) :
    (s.storeByte o x).ended = s.ended := rfl
@[simp] theorem State.storeByte_portA (s : State) (o : Nat) (x : Byte) :
    (s.storeByte o x).portA = s.portA := rfl
@[simp] theorem State.storeByte_portB (s : State) (o : Nat) (x : Byte) :
    (s.storeByte o x).portB = s.portB := rfl
@[simp] theorem State.storeByte_inputs (s : State) (o : Nat) (x : Byte) :
    (s.storeByte o x).inputs = s.inputs := rfl

/-! ### State.ecuClear -/

@[simp] theorem State.ecuClear_st (s : State) : s.ecuClear.st = s.st := rfl
@[simp] theorem State.ecuClear_pos (s : State) : s.ecuClear.pos = s.pos := rfl
@[simp] theorem State.ecuClear_start (s : State) : s.ecuClear.start = s.start := rfl
@[simp] theorem State.ecuClear_ev (s : State) : s.ecuClear.ev = s.ev := rfl
@[simp] theorem State.ecuClear_evPos (s : State) : s.ecuClear.evPos = s.evPos := rfl
@[simp] theorem State.ecuClear_fb (s : State) : s.ecuClear.fb = s.fb := rfl
@[simp] theorem State.ecuClear_cka (s : State) : s.ecuClear.cka = 0 := rfl
@[simp] theorem State.ecuClear_ckb (s : State) : s.ecuClear.ckb = 0 := rfl
@[simp] theorem State.ecuClear_out (s : State) : s.ecuClear.out = s.out := rfl
@[simp] theorem State.ecuClear_pw (s : State) : s.ecuClear.pw = s.pw := rfl
@[simp] theorem State.ecuClear_crcCalc (s : State) : s.ecuClear.crcCalc = s.crcCalc := rfl
@[simp] theorem State.ecuClear_crcEmb (s : State) : s.ecuClear.crcEmb = s.crcEmb := rfl
@[simp] theorem State.ecuClear_crcOk (s : State) : s.ecuClear.crcOk = s.crcOk := rfl
@[simp] theorem State.ecuClear_res (s : State) : s.ecuClear.res = s.res := rfl
@[simp] theorem State.ecuClear_cerr (s : State) : s.ecuClear.cerr = s.cerr := rfl
@[simp] theorem State.ecuClear_params (s : State) : s.ecuClear.params = s.params := rfl
@[simp] theorem State.ecuClear_stream (s : State) : s.ecuClear.stream = s.stream := rfl
@[simp] theorem State.ecuClear_ended (s : State) : s.ecuClear.ended = s.ended := rfl
@[simp] theorem State.ecuClear_portA (s : State) : s.ecuClear.portA = s.portA := rfl
@[simp] theorem State.ecuClear_portB (s : State) : s.ecuClear.portB = s.portB := rfl
@[simp] theorem State.ecuClear_inputs (s : State) : s.ecuClear.inputs = s.inputs := rfl

/-! ### State.ecuUpdate -/

@[simp] theorem State.ecuUpdate_st (s : State) (x : Byte) : (s.ecuUpdate x).st = s.st := rfl
@[simp] theorem State.ecuUpdate_pos (s : State) (x : Byte) : (s.ecuUpdate x).pos = s.pos := rfl
@[simp] theorem State.ecuUpdate_start (s : State) (x : Byte) :
    (s.ecuUpdate x).start = s.start := rfl
@[simp] theorem State.ecuUpdate_ev (s : State) (x : Byte) : (s.ecuUpdate x).ev = s.ev := rfl
@[simp] theorem State.ecuUpdate_evPos (s : State) (x : Byte) :
    (s.ecuUpdate x).evPos = s.evPos := rfl
@[simp] theorem State.ecuUpdate_fb (s : State) (x : Byte) : (s.ecuUpdate x).fb = s.fb := rfl
@[simp] theorem State.ecuUpdate_cka (s : State) (x : Byte) : (s.ecuUpdate x).cka = s.cka + x := rfl
@[simp] theorem State.ecuUpdate_ckb (s : State) (x : Byte) :
    (s.ecuUpdate x).ckb = s.ckb + (s.cka + x) := rfl
@[simp] theorem State.ecuUpdate_out (s : State) (x : Byte) : (s.ecuUpdate x).out = s.out := rfl
@[simp] theorem State.ecuUpdate_pw (s : State) (x : Byte) : (s.ecuUpdate x).pw = s.pw := rfl
@[simp] theorem State.ecuUpdate_crcCalc (s : State) (x : Byte) :
    (s.ecuUpdate x).crcCalc = s.crcCalc := rfl
@[simp] theorem State.ecuUpdate_crcEmb (s : State) (x : Byte) :
    (s.ecuUpdate x).crcEmb = s.crcEmb := rfl
@[simp] theorem State.ecuUpdate_crcOk (s : State) (x : Byte) :
    (s.ecuUpdate x).crcOk = s.crcOk := rfl
@[simp] theorem State.ecuUpdate_res (s : State) (x : Byte) : (s.ecuUpdate x).res = s.res := rfl
@[simp] theorem State.ecuUpdate_cerr (s : State) (x : Byte) : (s.ecuUpdate x).cerr = s.cerr := rfl
@[simp] theorem State.ecuUpdate_params (s : State) (x : Byte) :
    (s.ecuUpdate x).params = s.params := rfl
@[simp] theorem State.ecuUpdate_stream (s : State) (x : Byte) :
    (s.ecuUpdate x).stream = s.stream := rfl
@[simp] theorem State.ecuUpdate_ended (s : State) (x : Byte) :
    (s.ecuUpdate x).ended = s.ended := rfl
@[simp] theorem State.ecuUpdate_portA (s : State) (x : Byte) :
    (s.ecuUpdate x).portA = s.portA := rfl
@[simp] theorem State.ecuUpdate_portB (s : State) (x : Byte) :
    (s.ecuUpdate x).portB = s.portB := rfl
@[simp] theorem State.ecuUpdate_inputs (s : State) (x : Byte) :
    (s.ecuUpdate x).inputs = s.inputs := rfl

/-! ### State.presentOperands -/

@[simp] theorem State.presentOperands_st (s : State) (a b : Wide) :
    (s.presentOperands a b).st = s.st := rfl
@[simp] theorem State.presentOperands_pos (s : State) (a b : Wide) :
    (s.presentOperands a b).pos = s.pos := rfl
@[simp] theorem State.presentOperands_start (s : State) (a b : Wide) :
    (s.presentOperands a b).start = s.start := rfl
@[simp] theorem State.presentOperands_ev (s : State) (a b : Wide) :
    (s.presentOperands a b).ev = s.ev := rfl
@[simp] theorem State.presentOperands_evPos (s : State) (a b : Wide) :
    (s.presentOperands a b).evPos = s.evPos := rfl
@[simp] theorem State.presentOperands_fb (s : State) (a b : Wide) :
    (s.presentOperands a b).fb = s.fb := rfl
@[simp] theorem State.presentOperands_cka (s : State) (a b : Wide) :
    (s.presentOperands a b).cka = s.cka := rfl
@[simp] theorem State.presentOperands_ckb (s : State) (a b : Wide) :
    (s.presentOperands a b).ckb = s.ckb := rfl
@[simp] theorem State.presentOperands_out (s : State) (a b : Wide) :
    (s.presentOperands a b).out = s.out := rfl
@[simp] theorem State.presentOperands_pw (s : State) (a b : Wide) :
    (s.presentOperands a b).pw = s.pw := rfl
@[simp] theorem State.presentOperands_crcCalc (s : State) (a b : Wide) :
    (s.presentOperands a b).crcCalc = s.crcCalc := rfl
@[simp] theorem State.presentOperands_crcEmb (s : State) (a b : Wide) :
    (s.presentOperands a b).crcEmb = s.crcEmb := rfl
@[simp] theorem State.presentOperands_crcOk (s : State) (a b : Wide) :
    (s.presentOperands a b).crcOk = s.crcOk := rfl
@[simp] theorem State.presentOperands_res (s : State) (a b : Wide) :
    (s.presentOperands a b).res = s.res := rfl
@[simp] theorem State.presentOperands_cerr (s : State) (a b : Wide) :
    (s.presentOperands a b).cerr = s.cerr := rfl
@[simp] theorem State.presentOperands_params (s : State) (a b : Wide) :
    (s.presentOperands a b).params = s.params := rfl
@[simp] theorem State.presentOperands_stream (s : State) (a b : Wide) :
    (s.presentOperands a b).stream = s.stream := rfl
@[simp] theorem State.presentOperands_ended (s : State) (a b : Wide) :
    (s.presentOperands a b).ended = s.ended := rfl
@[simp] theorem State.presentOperands_portA (s : State) (a b : Wide) :
    (s.presentOperands a b).portA = a := rfl
@[simp] theorem State.presentOperands_portB (s : State) (a b : Wide) :
    (s.presentOperands a b).portB = b := rfl
@[simp] theorem State.presentOperands_inputs (s : State) (a b : Wide) :
    (s.presentOperands a b).inputs = s.inputs := rfl

/-! ### State.setInputs -/

@[simp] theorem State.setInputs_st (s : State) (rest : List Input) :
    (s.setInputs rest).st = s.st := rfl
@[simp] theorem State.setInputs_pos (s : State) (rest : List Input) :
    (s.setInputs rest).pos = s.pos := rfl
@[simp] theorem State.setInputs_start (s : State) (rest : List Input) :
    (s.setInputs rest).start = s.start := rfl
@[simp] theorem State.setInputs_ev (s : State) (rest : List Input) :
    (s.setInputs rest).ev = s.ev := rfl
@[simp] theorem State.setInputs_evPos (s : State) (rest : List Input) :
    (s.setInputs rest).evPos = s.evPos := rfl
@[simp] theorem State.setInputs_fb (s : State) (rest : List Input) :
    (s.setInputs rest).fb = s.fb := rfl
@[simp] theorem State.setInputs_cka (s : State) (rest : List Input) :
    (s.setInputs rest).cka = s.cka := rfl
@[simp] theorem State.setInputs_ckb (s : State) (rest : List Input) :
    (s.setInputs rest).ckb = s.ckb := rfl
@[simp] theorem State.setInputs_out (s : State) (rest : List Input) :
    (s.setInputs rest).out = s.out := rfl
@[simp] theorem State.setInputs_pw (s : State) (rest : List Input) :
    (s.setInputs rest).pw = s.pw := rfl
@[simp] theorem State.setInputs_crcCalc (s : State) (rest : List Input) :
    (s.setInputs rest).crcCalc = s.crcCalc := rfl
@[simp] theorem State.setInputs_crcEmb (s : State) (rest : List Input) :
    (s.setInputs rest).crcEmb = s.crcEmb := rfl
@[simp] theorem State.setInputs_crcOk (s : State) (rest : List Input) :
    (s.setInputs rest).crcOk = s.crcOk := rfl
@[simp] theorem State.setInputs_res (s : State) (rest : List Input) :
    (s.setInputs rest).res = s.res := rfl
@[simp] theorem State.setInputs_cerr (s : State) (rest : List Input) :
    (s.setInputs rest).cerr = s.cerr := rfl
@[simp] theorem State.setInputs_params (s : State) (rest : List Input) :
    (s.setInputs rest).params = s.params := rfl
@[simp] theorem State.setInputs_stream (s : State) (rest : List Input) :
    (s.setInputs rest).stream = s.stream := rfl
@[simp] theorem State.setInputs_ended (s : State) (rest : List Input) :
    (s.setInputs rest).ended = s.ended := rfl
@[simp] theorem State.setInputs_portA (s : State) (rest : List Input) :
    (s.setInputs rest).portA = s.portA := rfl
@[simp] theorem State.setInputs_portB (s : State) (rest : List Input) :
    (s.setInputs rest).portB = s.portB := rfl
@[simp] theorem State.setInputs_inputs (s : State) (rest : List Input) :
    (s.setInputs rest).inputs = rest := rfl

/-! ### State.crcCheck -/

@[simp] theorem State.crcCheck_st (s : State) : s.crcCheck.st = s.st := rfl
@[simp] theorem State.crcCheck_pos (s : State) : s.crcCheck.pos = s.pos := rfl
@[simp] theorem State.crcCheck_start (s : State) : s.crcCheck.start = s.start := rfl
@[simp] theorem State.crcCheck_ev (s : State) : s.crcCheck.ev = s.ev := rfl
@[simp] theorem State.crcCheck_evPos (s : State) : s.crcCheck.evPos = s.evPos := rfl
@[simp] theorem State.crcCheck_fb (s : State) : s.crcCheck.fb = s.fb := rfl
@[simp] theorem State.crcCheck_cka (s : State) : s.crcCheck.cka = s.cka := rfl
@[simp] theorem State.crcCheck_ckb (s : State) : s.crcCheck.ckb = s.ckb := rfl
@[simp] theorem State.crcCheck_out (s : State) : s.crcCheck.out = s.out := rfl
@[simp] theorem State.crcCheck_pw (s : State) : s.crcCheck.pw = s.pw := rfl
@[simp] theorem State.crcCheck_crcCalc (s : State) : s.crcCheck.crcCalc = computedCrc s.pw := rfl
@[simp] theorem State.crcCheck_crcEmb (s : State) : s.crcCheck.crcEmb = embeddedCrc s.pw := rfl
@[simp] theorem State.crcCheck_crcOk (s : State) :
    s.crcCheck.crcOk = crcAgrees (computedCrc s.pw) (embeddedCrc s.pw) := rfl
@[simp] theorem State.crcCheck_res (s : State) : s.crcCheck.res = s.res := rfl
@[simp] theorem State.crcCheck_cerr (s : State) : s.crcCheck.cerr = s.cerr := rfl
@[simp] theorem State.crcCheck_params (s : State) : s.crcCheck.params = s.params := rfl
@[simp] theorem State.crcCheck_stream (s : State) : s.crcCheck.stream = s.stream := rfl
@[simp] theorem State.crcCheck_ended (s : State) : s.crcCheck.ended = s.ended := rfl
@[simp] theorem State.crcCheck_portA (s : State) : s.crcCheck.portA = s.portA := rfl
@[simp] theorem State.crcCheck_portB (s : State) : s.crcCheck.portB = s.portB := rfl
@[simp] theorem State.crcCheck_inputs (s : State) : s.crcCheck.inputs = s.inputs := rfl

/-! ### State.acceptLoad -/

@[simp] theorem State.acceptLoad_st (s : State) : s.acceptLoad.st = s.st := rfl
@[simp] theorem State.acceptLoad_pos (s : State) : s.acceptLoad.pos = s.pos := rfl
@[simp] theorem State.acceptLoad_start (s : State) : s.acceptLoad.start = s.start := rfl
@[simp] theorem State.acceptLoad_ev (s : State) : s.acceptLoad.ev = s.ev := rfl
@[simp] theorem State.acceptLoad_evPos (s : State) : s.acceptLoad.evPos = s.evPos := rfl
@[simp] theorem State.acceptLoad_fb (s : State) : s.acceptLoad.fb = s.fb := rfl
@[simp] theorem State.acceptLoad_cka (s : State) : s.acceptLoad.cka = s.cka := rfl
@[simp] theorem State.acceptLoad_ckb (s : State) : s.acceptLoad.ckb = s.ckb := rfl
@[simp] theorem State.acceptLoad_out (s : State) : s.acceptLoad.out = outHeader s.fb := rfl
@[simp] theorem State.acceptLoad_pw (s : State) :
    s.acceptLoad.pw = wireWords s.params.wordWireOrder s.fb := rfl
@[simp] theorem State.acceptLoad_crcCalc (s : State) :
    s.acceptLoad.crcCalc = computedCrc (wireWords s.params.wordWireOrder s.fb) := State.crcCheck_crcCalc _
@[simp] theorem State.acceptLoad_crcEmb (s : State) :
    s.acceptLoad.crcEmb = embeddedCrc (wireWords s.params.wordWireOrder s.fb) := State.crcCheck_crcEmb _
@[simp] theorem State.acceptLoad_crcOk (s : State) :
    s.acceptLoad.crcOk = crcAgrees (computedCrc (wireWords s.params.wordWireOrder s.fb))
      (embeddedCrc (wireWords s.params.wordWireOrder s.fb)) := State.crcCheck_crcOk _
@[simp] theorem State.acceptLoad_res (s : State) : s.acceptLoad.res = s.res := rfl
@[simp] theorem State.acceptLoad_cerr (s : State) : s.acceptLoad.cerr = s.cerr := rfl
@[simp] theorem State.acceptLoad_params (s : State) : s.acceptLoad.params = s.params := rfl
@[simp] theorem State.acceptLoad_stream (s : State) : s.acceptLoad.stream = s.stream := rfl
@[simp] theorem State.acceptLoad_ended (s : State) : s.acceptLoad.ended = s.ended := rfl
@[simp] theorem State.acceptLoad_portA (s : State) : s.acceptLoad.portA = s.portA := rfl
@[simp] theorem State.acceptLoad_portB (s : State) : s.acceptLoad.portB = s.portB := rfl
@[simp] theorem State.acceptLoad_inputs (s : State) : s.acceptLoad.inputs = s.inputs := rfl

end Sys2Proof.Machine
end

