-- ==== Sys2Proof/Laws/Commands.lean ====
section
/-! SUPPORT. What a command can do, said once. -/

namespace Sys2Proof.Machine

/-- Everything LOADW can do (44_control.md R243). -/
theorem execLoadw_cases (k : BitVec 4) (s : State) :
    (s.st.isHold = false ∧ execLoadw k s = .next (s.raiseCmdError .busy)) ∨
    (s.st.isHold = true ∧ 9 < k.toNat ∧ execLoadw k s = .next (s.raiseCmdError .range)) ∨
    (s.st.isHold = true ∧ k.toNat ≤ 9 ∧
      execLoadw k s = .next (s.writePayloadWord k.toNat s.operandWord).succeed) := by
  unfold execLoadw
  split
  · simp_all
  · split
    · simp_all
    · exact .inr (.inr ⟨by simp_all, by omega, rfl⟩)

/-- Everything ACK can do (44_control.md R244). -/
theorem execAck_cases (s : State) :
    (s.ev = .none ∧ execAck s = .next (s.raiseCmdError .noEvent)) ∨
    ((s.ev = .frameAccepted ∨ s.ev = .checksumMismatch) ∧
      execAck s = .next s.returnFromEvent.succeed) ∨
    (s.ev = .streamExhausted ∧ execAck s = .next s.succeed) := by
  unfold execAck
  split <;> simp_all

/-- Everything a value-producing command can do: an error, or a result in RES (R245). -/
theorem exec_value_cases {i : Instr} (h : producesValue i = true) (s : State) :
    (∃ c, c ≠ .ok ∧ exec i s = .next (s.raiseCmdError c)) ∨
    (∃ v, exec i s = .next (s.succeedWith v)) := by
  cases i <;> simp only [producesValue, Bool.false_eq_true] at h <;> simp only [exec]
  · unfold execExtract
    split
    · exact .inl ⟨.range, by decide, rfl⟩
    · exact .inr ⟨_, rfl⟩
  · unfold execConcat
    split
    · exact .inl ⟨.range, by decide, rfl⟩
    · exact .inr ⟨_, rfl⟩
  · unfold execSext
    split
    · exact .inl ⟨.range, by decide, rfl⟩
    · exact .inr ⟨_, rfl⟩
  · exact .inr ⟨_, rfl⟩
  · unfold execField
    split
    · exact .inl ⟨.reservedBits, by decide, rfl⟩
    · split
      · exact .inl ⟨.range, by decide, rfl⟩
      · exact .inr ⟨_, rfl⟩
  · unfold execCrc24q
    split
    · exact .inl ⟨.range, by decide, rfl⟩
    · exact .inr ⟨_, rfl⟩
  · exact .inr ⟨_, rfl⟩

/-- Everything a command can do (44_control.md R240 to R245). -/
theorem exec_cases (i : Instr) (s : State) :
    (∃ c, c ≠ .ok ∧ exec i s = .next (s.raiseCmdError c)) ∨
    (producesValue i = true ∧ ∃ v, exec i s = .next (s.succeedWith v)) ∨
    (i = .nop ∧ exec i s = .next s.succeed) ∨
    (∃ k, i = .loadw k ∧ s.st.isHold = true ∧ k.toNat ≤ 9 ∧
      exec i s = .next (s.writePayloadWord k.toNat s.operandWord).succeed) ∨
    (i = .ack ∧ (s.ev = .frameAccepted ∨ s.ev = .checksumMismatch) ∧
      exec i s = .next s.returnFromEvent.succeed) ∨
    (i = .ack ∧ s.ev = .streamExhausted ∧ exec i s = .next s.succeed) := by
  by_cases hv : producesValue i = true
  · rcases exec_value_cases hv s with h | h
    · exact .inl h
    · exact .inr (.inl ⟨hv, h⟩)
  cases i <;> simp only [producesValue, not_true_eq_false] at hv
  case nop => exact .inr (.inr (.inl ⟨rfl, rfl⟩))
  case loadw k =>
    rcases execLoadw_cases k s with ⟨-, h⟩ | ⟨-, -, h⟩ | ⟨h1, h2, h⟩
    · exact .inl ⟨.busy, by decide, h⟩
    · exact .inl ⟨.range, by decide, h⟩
    · exact .inr (.inr (.inr (.inl ⟨k, rfl, h1, h2, h⟩)))
  case ack =>
    rcases execAck_cases s with ⟨-, h⟩ | ⟨he, h⟩ | ⟨he, h⟩
    · exact .inl ⟨.noEvent, by decide, h⟩
    · exact .inr (.inr (.inr (.inr (.inl ⟨rfl, he, h⟩))))
    · exact .inr (.inr (.inr (.inr (.inr ⟨rfl, he, h⟩))))
  case reservedAB low => exact .inl ⟨.illegalOp, by decide, rfl⟩
  case reservedCF low => exact .inl ⟨.illegalOp, by decide, rfl⟩

/-- Decoding a word with OP below 0xA: the reserved bits decide (30_encoding.md R101). -/
theorem unlessReserved_cases {n : Nat} (r : BitVec n) (i : Instr) :
    (r = 0 ∧ unlessReserved r i = .ok i) ∨ (r ≠ 0 ∧ unlessReserved r i = .error .reservedBits) := by
  unfold unlessReserved
  split <;> simp_all

end Sys2Proof.Machine
end

