-- ==== Sys2Proof/Laws/Fsu.lean ====
section
/-! SUPPORT. What an FSU step can do, said once: inversion lemmas for the step and for each of its
operations. Later proofs cite these and unfold nothing. -/

namespace Sys2Proof.Machine

/-- A byte of the stream is delivered exactly below the stream's length. -/
theorem stream_get_none_iff (s : State) : s.stream[s.pos]? = none ↔ s.stream.length ≤ s.pos := by
  simp

theorem consumingStep_cases {s t : State} (h : s.consumingStep = some t) :
    (∃ x, s.stream[s.pos]? = some x ∧ t = s.consume x) ∨
    (s.stream.length ≤ s.pos ∧ s.ended = true ∧
      t = s.enterEvent .streamExhausted s.stream.length .exhausted) := by
  unfold State.consumingStep at h
  split at h
  · next x hx => exact .inl ⟨x, hx, by simpa using h.symm⟩
  · next hx =>
    split at h
    · next he => exact .inr ⟨by simpa using hx, he, by simpa using h.symm⟩
    · cases h

theorem fsuStep_consuming {s : State} (h : s.st.isConsuming = true) :
    fsuStep s = s.consumingStep := by
  cases hst : s.st <;> simp_all [fsuStep, FsuState.isConsuming]

/-- Everything an FSU step can do (43_frame_sync.md R190): consume one byte, post the exhaustion, or
decide the candidate. -/
theorem fsuStep_cases {s t : State} (h : fsuStep s = some t) :
    (s.st.isConsuming = true ∧ ∃ x, s.stream[s.pos]? = some x ∧ t = s.consume x) ∨
    (s.st.isConsuming = true ∧ s.stream.length ≤ s.pos ∧ s.ended = true ∧
      t = s.enterEvent .streamExhausted s.stream.length .exhausted) ∨
    (s.st = .validating ∧ t = s.validate) := by
  by_cases hc : s.st.isConsuming = true
  · rw [fsuStep_consuming hc] at h
    rcases consumingStep_cases h with ⟨x, hx, ht⟩ | ⟨hl, he, ht⟩
    · exact .inl ⟨hc, x, hx, ht⟩
    · exact .inr (.inl ⟨hc, hl, he, ht⟩)
  · cases hst : s.st <;> simp_all [fsuStep, FsuState.isConsuming]

theorem seekSync1_cases (s : State) (p : Nat) (x : Byte) :
    (x = sync1 ∧ s.seekSync1 p x = ((s.beginCandidate p).storeByte 0 x).goto .seekingSync2) ∨
    (x ≠ sync1 ∧ s.seekSync1 p x = s) := by
  unfold State.seekSync1
  split <;> simp_all

theorem seekSync2_cases (s : State) (x : Byte) :
    (x = sync2 ∧ s.seekSync2 x = (s.storeByte 1 x).ecuClear.goto .readingHeader) ∨
    (x ≠ sync2 ∧ s.seekSync2 x = s.rewind) := by
  unfold State.seekSync2
  split <;> simp_all

theorem filterFailure_cases (s : State) :
    (s.params.filterPolicy = .rescan ∧ s.filterFailure = s.rewind) ∨
    (s.params.filterPolicy = .skipDeclared ∧
      s.filterFailure = s.skipDeclared (declaredLength s.fb)) := by
  unfold State.filterFailure
  split <;> simp_all

/-- Everything the tests of READING_HEADER can do (R199 to R202). -/
theorem headerTests_cases (s : State) (o : Nat) :
    (o = 3 ∧ classIdMatches s.fb = true ∧ s.headerTests o = s) ∨
    (o = 3 ∧ classIdMatches s.fb = false ∧ s.headerTests o = s.rewind) ∨
    (o = 13 ∧ filterPasses s.params s.fb = true ∧ s.headerTests o = s.goto .readingPayload) ∨
    (o = 13 ∧ filterPasses s.params s.fb = false ∧ s.headerTests o = s.filterFailure) ∨
    (o ≠ 3 ∧ o ≠ 13 ∧ s.headerTests o = s) := by
  unfold State.headerTests
  split
  · split <;> simp_all
  · split
    · split <;> simp_all
    · simp_all

/-- Everything the step of READING_PAYLOAD can do (R204). -/
theorem readPayload_cases (s : State) (o : Nat) (x : Byte) :
    (o ≤ 53 ∧ s.readPayload o x = (s.storeByte o x).ecuUpdate x) ∨
    (53 < o ∧ o ≠ 55 ∧ s.readPayload o x = s.storeByte o x) ∨
    (o = 55 ∧ s.readPayload o x = (s.storeByte o x).goto .validating) := by
  unfold State.readPayload
  by_cases h53 : o ≤ 53
  · have : o ≠ 55 := by omega
    simp_all
  · by_cases h55 : o = 55
    · simp_all
    · simp_all

/-- Everything the VALIDATING step can do (R205). -/
theorem validate_cases (s : State) :
    (s.ckOk = true ∧ s.validate = s.acceptLoad.enterEvent .frameAccepted s.start .accept) ∨
    (s.ckOk = false ∧
      s.validate = { s.enterEvent .checksumMismatch s.start .reject with pos := s.start + 1 }) := by
  unfold State.validate
  split <;> simp_all

/-- A consuming step writes only ST, POS, START, FB, CKA and CKB (R193 to R204). -/
theorem consume_frame (s : State) (x : Byte) :
    s.consume x = { s with
      st := (s.consume x).st, pos := (s.consume x).pos, start := (s.consume x).start,
      fb := (s.consume x).fb, cka := (s.consume x).cka, ckb := (s.consume x).ckb } := by
  unfold State.consume
  split
  · rcases seekSync1_cases s.advance s.pos x with ⟨-, h⟩ | ⟨-, h⟩ <;> rw [h] <;> rfl
  · rcases seekSync2_cases s.advance x with ⟨-, h⟩ | ⟨-, h⟩ <;> rw [h] <;> rfl
  · unfold State.readHeader
    rcases headerTests_cases ((s.advance.storeByte (s.pos - s.start) x).ecuUpdate x)
        (s.pos - s.start) with ⟨-, -, h⟩ | ⟨-, -, h⟩ | ⟨-, -, h⟩ | ⟨-, -, h⟩ | ⟨-, -, h⟩ <;> rw [h]
    · rfl
    · rfl
    · rfl
    · rcases filterFailure_cases ((s.advance.storeByte (s.pos - s.start) x).ecuUpdate x)
        with ⟨-, h'⟩ | ⟨-, h'⟩ <;> rw [h'] <;> rfl
    · rfl
  · rcases readPayload_cases s.advance (s.pos - s.start) x with ⟨-, h⟩ | ⟨-, -, h⟩ | ⟨-, h⟩ <;>
      rw [h] <;> rfl
  all_goals rfl

/-- A VALIDATING step reads no byte and leaves the buffer, the accumulators, RES, CERR and the
outside alone (R205). -/
theorem validate_frame (s : State) :
    s.validate = { s with
      st := s.validate.st, pos := s.validate.pos, ev := s.validate.ev, evPos := s.validate.evPos,
      out := s.validate.out, pw := s.validate.pw, crcCalc := s.validate.crcCalc,
      crcEmb := s.validate.crcEmb, crcOk := s.validate.crcOk } := by
  rcases validate_cases s with ⟨-, h⟩ | ⟨-, h⟩ <;> rw [h] <;> rfl

/-- The hold states have no FSU step (R191). -/
theorem fsuStep_hold {s : State} (h : s.st.isHold = true) : fsuStep s = none := by
  cases hst : s.st <;> simp_all [fsuStep, FsuState.isHold]

end Sys2Proof.Machine
end

