-- ==== Sys2Proof/Laws/Frames.lean ====
section
/-! SUPPORT. Reading the frame buffer, the stream and the checksum sums: the small lemmas of those
definitions. -/

namespace Sys2Proof.Machine

/-! ## The frame buffer -/

theorem frameByte_eq_getElem (fb : Vector Byte 56) {o : Nat} (h : o < 56) :
    frameByte fb o = fb[o] := by
  simp [frameByte, h]

/-- A read after a write gives the byte written at its offset, and every other byte as it was. -/
theorem frameByte_setIfInBounds (fb : Vector Byte 56) (o j : Nat) (x : Byte) (h : o < 56) :
    frameByte (fb.setIfInBounds o x) j = if j = o then x else frameByte fb j := by
  unfold frameByte
  rw [Vector.getElem?_setIfInBounds]
  split
  · next heq => subst heq; simp
  · next hne => rw [if_neg (fun e => hne e.symm)]

theorem frameByte_setIfInBounds_self (fb : Vector Byte 56) (o : Nat) (x : Byte) (h : o < 56) :
    frameByte (fb.setIfInBounds o x) o = x := by
  rw [frameByte_setIfInBounds fb o o x h, if_pos rfl]

theorem frameByte_setIfInBounds_ne (fb : Vector Byte 56) {o j : Nat} (x : Byte) (h : o < 56)
    (hne : j ≠ o) : frameByte (fb.setIfInBounds o x) j = frameByte fb j := by
  rw [frameByte_setIfInBounds fb o j x h, if_neg hne]

theorem declaredLength_eq (fb : Vector Byte 56) :
    declaredLength fb = (frameByte fb 4).toNat + 256 * (frameByte fb 5).toNat := rfl

theorem classIdMatches_iff (fb : Vector Byte 56) :
    classIdMatches fb = true ↔ frameByte fb 2 = 0x02 ∧ frameByte fb 3 = 0x13 := by
  unfold classIdMatches
  rw [Bool.and_eq_true, decide_eq_true_eq, decide_eq_true_eq]
  simp only [classSfrbx, idSfrbx, frameByte_eq_getElem fb (show 2 < 56 by decide), frameByte_eq_getElem fb (show 3 < 56 by decide)]

theorem filterPasses_iff (p : Params) (fb : Vector Byte 56) :
    filterPasses p fb = true ↔ FilterAccepts p (frameByte fb) := by
  unfold filterPasses FilterAccepts
  rw [Bool.and_eq_true, Bool.and_eq_true, decide_eq_true_eq, decide_eq_true_eq]
  simp only [gnssGps, lenCnav, declaredLength_eq, frameByte_eq_getElem fb (show 6 < 56 by decide),
    frameByte_eq_getElem fb (show 8 < 56 by decide), and_assoc]

theorem ckOk_iff (s : State) :
    s.ckOk = true ↔ frameByte s.fb 54 = s.cka ∧
      (s.params.ckMode = .strict → frameByte s.fb 55 = s.ckb) := by
  rw [frameByte_eq_getElem s.fb (show 54 < 56 by decide),
    frameByte_eq_getElem s.fb (show 55 < 56 by decide)]
  unfold State.ckOk
  cases h : s.params.ckMode <;> simp

theorem outHeader_headerOfFrame (fb : Vector Byte 56) :
    HeaderOfFrame (outHeader fb) (frameByte fb) := by
  refine ⟨rfl, rfl, ?_, rfl, rfl, rfl, rfl, rfl, rfl, rfl, rfl, rfl, rfl⟩
  have h4 := (frameByte fb 4).isLt
  have h5 := (frameByte fb 5).isLt
  simp only [outHeader, declaredLength_eq, BitVec.toNat_ofNat]
  omega

/-! ## The stream -/

theorem frameAt_append (stream more : List Byte) {f o : Nat} (h : f + o < stream.length) :
    frameAt (stream ++ more) f o = frameAt stream f o := by
  simp [frameAt, List.getD, List.getElem?_append, h]

theorem frameAt_of_getElem? {stream : List Byte} {f o : Nat} {x : Byte}
    (h : stream[f + o]? = some x) : frameAt stream f o = x := by
  simp [frameAt, List.getD, h]

theorem lt_length_of_getElem? {stream : List Byte} {i : Nat} {x : Byte}
    (h : stream[i]? = some x) : i < stream.length := by
  by_contra hc
  rw [List.getElem?_eq_none (by omega)] at h
  cases h

/-- Predicates on a candidate's bytes see only the offsets 0 to 55. -/
theorem filterAccepts_congr {p : Params} {b c : Nat → Byte} (h : ∀ o, o < 14 → b o = c o) :
    FilterAccepts p b ↔ FilterAccepts p c := by
  unfold FilterAccepts
  rw [h 4 (by decide), h 5 (by decide), h 6 (by decide), h 8 (by decide)]

theorem headerOfFrame_congr {out : OutHeader} {b c : Nat → Byte} (h : ∀ o, o < 56 → b o = c o) :
    HeaderOfFrame out b ↔ HeaderOfFrame out c := by
  unfold HeaderOfFrame
  rw [h 2 (by decide), h 3 (by decide), h 4 (by decide), h 5 (by decide), h 6 (by decide),
    h 7 (by decide), h 8 (by decide), h 9 (by decide), h 10 (by decide), h 11 (by decide),
    h 12 (by decide), h 13 (by decide), h 54 (by decide), h 55 (by decide)]

/-! ## The checksum sums -/

theorem ckaSum_two (b : Nat → Byte) : ckaSum b 2 = 0 := rfl

theorem ckbSum_two (b : Nat → Byte) : ckbSum b 2 = 0 := rfl

/-- One more byte adds itself to the sum. -/
theorem ckaSum_succ (b : Nat → Byte) {k : Nat} (h : 2 ≤ k) :
    ckaSum b (k + 1) = ckaSum b k + (b k).toNat := by
  unfold ckaSum
  rw [Finset.sum_Ico_succ_top h]

/-- One more byte adds the whole new sum to the weighted sum: CKB adds the new CKA
(42_envelope_checksum.md R170). -/
theorem ckbSum_succ (b : Nat → Byte) {k : Nat} (h : 2 ≤ k) :
    ckbSum b (k + 1) = ckbSum b k + ckaSum b (k + 1) := by
  unfold ckbSum ckaSum
  rw [Finset.sum_Ico_succ_top h, Finset.sum_Ico_succ_top h, ← add_assoc, ← Finset.sum_add_distrib]
  congr 1
  · refine Finset.sum_congr rfl fun o ho => ?_
    rw [Finset.mem_Ico] at ho
    have : k + 1 - o = (k - o) + 1 := by omega
    rw [this, Nat.succ_mul]
  · simp

theorem ckaSum_congr {b c : Nat → Byte} {k : Nat} (h : ∀ o, o < k → b o = c o) :
    ckaSum b k = ckaSum c k := by
  unfold ckaSum
  refine Finset.sum_congr rfl fun o ho => ?_
  rw [h o (Finset.mem_Ico.mp ho).2]

theorem ckbSum_congr {b c : Nat → Byte} {k : Nat} (h : ∀ o, o < k → b o = c o) :
    ckbSum b k = ckbSum c k := by
  unfold ckbSum
  refine Finset.sum_congr rfl fun o ho => ?_
  rw [h o (Finset.mem_Ico.mp ho).2]

/-- The accumulators follow the sums by one byte (42_envelope_checksum.md R170, R174). -/
theorem ecuUpdate_sums {s : State} {b : Nat → Byte} {k : Nat} (h : 2 ≤ k)
    (ha : s.cka.toNat = ckaSum b k % 256) (hb : s.ckb.toNat = ckbSum b k % 256) :
    (s.ecuUpdate (b k)).cka.toNat = ckaSum b (k + 1) % 256 ∧
      (s.ecuUpdate (b k)).ckb.toNat = ckbSum b (k + 1) % 256 := by
  simp only [State.ecuUpdate_cka, State.ecuUpdate_ckb, BitVec.toNat_add, ha, hb, ckbSum_succ b h,
    ckaSum_succ b h]
  omega

end Sys2Proof.Machine
end

