-- ==== Sys2Proof/Laws/PerInstr.lean ====
section
/-! SUPPORT. Facts about every command, one lemma per constructor: its word has its row's pattern in
spec/opcode_table.json. -/

namespace Sys2Proof.Laws.TableMatch

/-- The word of the command matches its row: under the row's mask it is the row's value (30_encoding.md
R105). -/
def Statement (i : Instr) : Prop := encode i &&& (tableRow i).mask = (tableRow i).value

theorem nop : Statement (.nop) := by
  unfold Statement; decide

theorem extract (first last : BitVec 5) : Statement (.extract first last) := by
  ext i hi
  interval_cases i <;> simp [encode, tableRow, place]

theorem concat (lw : BitVec 7) : Statement (.concat lw) := by
  ext i hi
  interval_cases i <;> simp [encode, tableRow, place]

theorem sext (tw : BitVec 7) (cw : Container) : Statement (.sext tw cw) := by
  ext i hi
  interval_cases i <;> simp [encode, tableRow, place]

theorem scale (e : BitVec 8) (sg : Bool) : Statement (.scale e sg) := by
  ext i hi
  interval_cases i <;> simp [encode, tableRow, place]

theorem field (p : BitVec 9) (wm1 : BitVec 6) (sg sc : Bool) (e : BitVec 8) : Statement (.field p wm1 sg sc e) := by
  ext i hi
  interval_cases i <;> simp [encode, tableRow, place]

theorem crc24q (n : BitVec 9) : Statement (.crc24q n) := by
  ext i hi
  interval_cases i <;> simp [encode, tableRow, place]

theorem crcchk : Statement (.crcchk) := by
  unfold Statement; decide

theorem loadw (k : BitVec 4) : Statement (.loadw k) := by
  ext i hi
  interval_cases i <;> simp [encode, tableRow, place]

theorem ack : Statement (.ack) := by
  unfold Statement; decide

theorem reservedAB (low : BitVec 29) : Statement (.reservedAB low) := by
  ext i hi
  interval_cases i <;> simp [encode, tableRow, place]

theorem reservedCF (low : BitVec 30) : Statement (.reservedCF low) := by
  ext i hi
  interval_cases i <;> simp [encode, tableRow, place]

end Sys2Proof.Laws.TableMatch
end

