-- ==== Sys2Proof/Tests/Slice0.lean ====
section
/-! SUPPORT. Tests of the model: ill-formed terms, the decoding of words written out from the spec,
single steps on the vectors of 95_test_vectors.md, and for each statement that has hypotheses a
witness that meets them. -/

namespace Sys2Proof.Tests

open Sys2Proof Sys2Proof.Machine

-- One theorem at a time: the kernel evaluations do not wait on each other in threads.
set_option Elab.async false

/-! ## WellFormed: one ill-formed term for each check, and its neighbour that passes -/

theorem test_wf_extract :
    (Instr.extract 5 4).wellFormed = false ∧ (Instr.extract 4 4).wellFormed = true := by decide

theorem test_wf_concat :
    (Instr.concat 64).wellFormed = false ∧ (Instr.concat 63).wellFormed = true := by decide

theorem test_wf_sext :
    (Instr.sext 0 .c64).wellFormed = false ∧ (Instr.sext 33 .c32).wellFormed = false ∧
    (Instr.sext 65 .c64).wellFormed = false ∧ (Instr.sext 32 .c32).wellFormed = true ∧
    (Instr.sext 64 .c64).wellFormed = true := by decide

theorem test_wf_field_range :
    (Instr.field 257 63 false false 0).wellFormed = false ∧
    (Instr.field 256 63 false false 0).wellFormed = true := by decide

theorem test_wf_field_exponent :
    (Instr.field 0 31 false false 1).wellFormed = false ∧
    (Instr.field 0 31 false true 1).wellFormed = true := by decide

theorem test_wf_crc24q :
    (Instr.crc24q 321).wellFormed = false ∧ (Instr.crc24q 320).wellFormed = true := by decide

theorem test_wf_loadw :
    (Instr.loadw 10).wellFormed = false ∧ (Instr.loadw 9).wellFormed = true := by decide

theorem test_wf_reserved :
    (Instr.reservedAB 0).wellFormed = false ∧ (Instr.reservedCF 0).wellFormed = false := by decide

/-! ## Decode: each word written out from the pattern of its format (30_encoding.md R91 to R101) -/

-- R100: 32 zero bits.
theorem test_decode_nop : decode 0b00000000000000000000000000000000 = .ok .nop := by decide

-- R91: 0001 SSSSS EEEEE and 18 zeros.
theorem test_decode_extract :
    decode 0b00010010001011000000000000000000 = .ok (.extract 4 11) := by decide

-- R92: 0010 LLLLLLL and 21 zeros.
theorem test_decode_concat :
    decode 0b00100001011000000000000000000000 = .ok (.concat 11) := by decide

-- R93: 0011 TTTTTTT C and 20 zeros; CW = 1 is the 64-bit container.
theorem test_decode_sext :
    decode 0b00110011010100000000000000000000 = .ok (.sext 26 .c64) ∧
    decode 0b00110011010000000000000000000000 = .ok (.sext 26 .c32) := by decide

-- R94: 0100 EEEEEEEE G and 19 zeros; -9 is 0xF7 (R102).
theorem test_decode_scale :
    decode 0b01001111011110000000000000000000 = .ok (.scale 0xF7 true) := by decide

-- R95: 0101 PPPPPPPPP WWWWWW G C EEEEEEEE 000.
theorem test_decode_field :
    decode 0b01010010100010110011111110111000 = .ok (.field 81 25 true true 0xF7) := by decide

-- R96: 0110 NNNNNNNNN and 19 zeros.
theorem test_decode_crc24q :
    decode 0b01101000101000000000000000000000 = .ok (.crc24q 276) := by decide

-- R97: 0111 and 28 zeros.
theorem test_decode_crcchk : decode 0b01110000000000000000000000000000 = .ok .crcchk := by decide

-- R98: 1000 KKKK and 24 zeros.
theorem test_decode_loadw : decode 0b10001001000000000000000000000000 = .ok (.loadw 9) := by decide

-- R99: 1001 and 28 zeros.
theorem test_decode_ack : decode 0b10010000000000000000000000000000 = .ok .ack := by decide

-- R101, point 1: OP 0xA to 0xF, whatever the other bits.
theorem test_decode_reserved :
    decode 0b10100000000000000000000000000001 = .ok (.reservedAB 0x00000001) ∧
    decode 0b10111111111111111111111111111111 = .ok (.reservedAB 0x1FFFFFFF) ∧
    decode 0b11000000000000000000000000000000 = .ok (.reservedCF 0x00000000) ∧
    decode 0b11110000000000000000000000000000 = .ok (.reservedCF 0x30000000) := by decide

-- R101, point 2: the lowest and the highest reserved bit of each assigned format.
theorem test_decode_reserved_bits :
    [0x00000001, 0x08000000, 0x10000001, 0x10020000, 0x20000001, 0x20100000, 0x30000001,
      0x30080000, 0x40000001, 0x40040000, 0x50000001, 0x50000004, 0x60000001, 0x60040000,
      0x70000001, 0x78000000, 0x80000001, 0x80800000, 0x90000001,
      0x98000000].all (fun w => decide (decode w = .error .reservedBits)) = true := by decide

-- R105: no word has the patterns of two rows of the opcode table.
theorem test_rows_disjoint :
    List.Pairwise (fun a b : TableRow => (a.value ^^^ b.value) &&& (a.mask &&& b.mask) ≠ 0)
      ([.nop, .extract 0 0, .concat 0, .sext 0 .c32, .scale 0 false, .field 0 0 false false 0,
        .crc24q 0, .crcchk, .loadw 0, .ack, .reservedAB 0, .reservedCF 0].map tableRow) := by
  decide

/-! ## Single commands: vectors of 95_test_vectors.md -/

/-- The payload words of V-FRAME-1 (95_test_vectors.md, section 2). -/
def frameWords : Vector Word 10 :=
  #v[0x8B144A00, 0x12345678, 0x9ABCFFFF, 0x83000303, 0x97654321, 0x13579BDF, 0x2468ACE0,
    0xF0E1D2C3, 0xB4A59DD5, 0x4B600000]

/-- A hold state with the words of V-FRAME-1, the operands a and b on the port, and an old result. -/
def held (a b : Wide) : State :=
  { State.reset with
    st := .accept, ev := .frameAccepted, pw := frameWords, portA := a, portB := b, res := 0x55 }

/-- RES and CERR after a command. -/
def outcome (i : Instr) (s : State) : Option (Wide × CmdError) :=
  match exec i s with
  | .next t => some (t.res, t.cerr)
  | .fault _ => none
  | .refused _ => none

-- R242: NOP leaves RES and clears CERR.
theorem test_nop :
    outcome .nop { held 0 0 with cerr := .range } = some (0x55, .ok) := by decide

-- V-BF-4, V-BF-5, V-BF-3.
theorem test_extract :
    outcome (.extract 4 11) (held 0xDEADBEEF 0) = some (0xEA, .ok) ∧
    outcome (.extract 0 3) (held 0xFFFFFFFFDEADBEEF 0) = some (0xD, .ok) ∧
    outcome (.extract 31 31) (held 0xDEADBEEF 0) = some (1, .ok) := by decide

-- V-BF-6.
theorem test_extract_range : outcome (.extract 5 4) (held 0 0) = some (0, .range) := by decide

-- V-BF-14, V-BF-15, V-BF-13, V-BF-16.
theorem test_concat :
    outcome (.concat 4) (held 0x1 0x1F) = some (0x1F, .ok) ∧
    outcome (.concat 4) (held 0x2 0x1F) = some (0x3F, .ok) ∧
    outcome (.concat 63) (held 0x3 0x1) = some (0x8000000000000001, .ok) ∧
    outcome (.concat 64) (held 0x1 0x1) = some (0, .range) := by decide

-- V-BF-18, V-BF-19, V-BF-27, V-BF-25.
theorem test_sext :
    outcome (.sext 5 .c64) (held 0x10 0) = some (0xFFFFFFFFFFFFFFF0, .ok) ∧
    outcome (.sext 5 .c32) (held 0x10 0) = some (0x00000000FFFFFFF0, .ok) ∧
    outcome (.sext 4 .c64) (held 0xF3 0) = some (0x3, .ok) ∧
    outcome (.sext 64 .c64) (held 0x8000000000000000 0) = some (0x8000000000000000, .ok) := by
  decide

-- V-BF-28, V-BF-29, V-BF-30.
theorem test_sext_range :
    outcome (.sext 0 .c64) (held 1 0) = some (0, .range) ∧
    outcome (.sext 33 .c32) (held 1 0) = some (0, .range) ∧
    outcome (.sext 65 .c64) (held 1 0) = some (0, .range) := by decide

-- V-BF-31, V-BF-32, V-BF-41.
theorem test_scale :
    outcome (.scale 0xF7 true) (held 0xFFFFFFFFFFFFFC18 0) = some (0xBFFF400000000000, .ok) ∧
    outcome (.scale 0xF7 false) (held 0xFFFFFFFFFFFFFC18 0) = some (0x4360000000000000, .ok) ∧
    outcome (.scale 0 true) (held 0x8000000000000000 0) = some (0xC3E0000000000000, .ok) := by
  decide +kernel

-- V-BF-39, V-BF-40: ties go to even, downwards and upwards. V-BF-37, V-BF-38: the end exponents.
theorem test_scale_rounding :
    outcome (.scale 0 false) (held 0x0020000000000001 0) = some (0x4340000000000000, .ok) ∧
    outcome (.scale 0 false) (held 0x0020000000000003 0) = some (0x4340000000000002, .ok) ∧
    outcome (.scale 0x80 true) (held 1 0) = some (0x37F0000000000000, .ok) ∧
    outcome (.scale 0x7F false) (held 0xFFFFFFFFFFFFFFFF 0) = some (0x4BE0000000000000, .ok) := by
  decide +kernel

-- V-BF-43, V-BF-42, V-BF-48, V-BF-54.
theorem test_field :
    outcome (.field 81 25 true true 0xF7) (held 0 0) = some (0xBFFF400000000000, .ok) ∧
    outcome (.field 81 25 true false 0) (held 0 0) = some (0xFFFFFFFFFFFFFC18, .ok) ∧
    outcome (.field 256 63 false false 0) (held 0 0) = some (0xB4A59DD54B600000, .ok) ∧
    outcome (.field 20 63 false false 0) (held 0 0) = some (0xA00123456789ABCF, .ok) := by
  decide +kernel

-- V-BF-49, V-BF-53; with both faults RESERVED_BITS comes first (R263).
theorem test_field_errors :
    outcome (.field 257 63 false false 0) (held 0 0) = some (0, .range) ∧
    outcome (.field 0 31 false false 1) (held 0 0) = some (0, .reservedBits) ∧
    outcome (.field 257 63 false false 1) (held 0 0) = some (0, .reservedBits) := by decide

-- V-CRC-10, V-CRC-9, V-CRC-4, V-CRC-5.
theorem test_crc24q :
    outcome (.crc24q 1) { held 0 0 with pw := frameWords.set 0 0x80000000 } =
      some (0x864CFB, .ok) ∧
    outcome (.crc24q 8) { held 0 0 with pw := frameWords.set 0 0xFF000000 } =
      some (0xDD8538, .ok) ∧
    outcome (.crc24q 0) (held 0 0) = some (0, .ok) ∧
    outcome (.crc24q 321) (held 0 0) = some (0, .range) := by decide +kernel

-- V-CRC-12: the residue over the message and its CRC.
theorem test_crc24q_residue : outcome (.crc24q 300) (held 0 0) = some (0, .ok) := by decide +kernel

-- V-CRC-2.
theorem test_crcchk : outcome .crcchk (held 0 0) = some (0x0001DD54B6DD54B6, .ok) := by
  decide +kernel

-- V-CRC-14: a check that fails.
theorem test_crcchk_disagrees :
    outcome .crcchk { held 0 0 with pw := Vector.replicate 10 0xFFFFFFFF } =
      some (0x0000FFFFFFA76B3C, .ok) := by decide +kernel

-- R243: the word, one word only, A[63:32] ignored, RES kept.
theorem test_loadw :
    (match exec (.loadw 9) (held 0x1122334455667788 0) with
      | .next t => decide (t.pw = frameWords.set 9 0x55667788 ∧ t.res = 0x55 ∧ t.cerr = .ok)
      | .fault _ => false
      | .refused _ => false) = true := by decide

-- R243, R263: BUSY before RANGE.
theorem test_loadw_errors :
    outcome (.loadw 10) (held 1 0) = some (0, .range) ∧
    outcome (.loadw 10) State.reset = some (0, .busy) ∧
    outcome (.loadw 0) { held 1 0 with st := .validating } = some (0, .busy) := by decide

/-- ST, EV, POS and CERR after a command. -/
def control (i : Instr) (s : State) : Option (FsuState × Event × Nat × CmdError) :=
  match exec i s with
  | .next t => some (t.st, t.ev, t.pos, t.cerr)
  | .fault _ => none
  | .refused _ => none

-- R244.
theorem test_ack :
    control .ack { held 0 0 with pos := 58 } = some (.seekingSync1, .none, 58, .ok) ∧
    control .ack { State.reset with st := .exhausted, ev := .streamExhausted, pos := 7 } =
      some (.exhausted, .streamExhausted, 7, .ok) := by decide

theorem test_ack_no_event :
    control .ack State.reset = some (.seekingSync1, .none, 0, .noEvent) := by decide

theorem test_reserved :
    outcome (.reservedAB 0x1A000000) (held 1 2) = some (0, .illegalOp) ∧
    outcome (.reservedCF 0x3FFFFFFF) (held 1 2) = some (0, .illegalOp) := by decide

-- The host's interface: a placed word is the first command after reset; a reserved bit is no command.
theorem test_placed_word :
    decodeTableWord 32 0x122C0000 = some (.extract 4 11) ∧ decodeTableWord 32 0x00000001 = none ∧
    (match step (State.reset.withFetchWord 32 0xBA000000) with
      | .next t => decide (t = { State.reset with cerr := .illegalOp })
      | .fault _ => false
      | .refused _ => false) = true := by decide

-- R103, R104: lines that assemble to nothing: a field that does not fit, a lost comma, an unknown name.
theorem test_assembler_refuses :
    assembleText "SCALE -129, s".toList = none ∧ assembleText "EXTRACT 4 11".toList = none ∧
    assembleText "LOADW 16".toList = none ∧ assembleText "FIELD 0, 65, u".toList = none ∧
    assembleText "HALT".toList = none := by decide +kernel

/-! ## The frame synchronizer -/

/-- L2C_BAND_VALUES as section 0 of 95_test_vectors.md binds it. -/
def params : Params := { Params.defaults with l2cBandValues := some [0x03, 0x04] }

/-- The same, with FILTER_POLICY = SKIP_DECLARED. -/
def skipParams : Params := { params with filterPolicy := .skipDeclared }

/-- The bytes of V-FRAME-1 (95_test_vectors.md, section 2). -/
def frameBytes : List Byte :=
  [0xB5, 0x62, 0x02, 0x13, 0x30, 0x00, 0x00, 0x05, 0x04, 0x00, 0x0A, 0x03, 0x02, 0x00] ++
  [0x8B, 0x14, 0x4A, 0x00, 0x12, 0x34, 0x56, 0x78, 0x9A, 0xBC, 0xFF, 0xFF, 0x83, 0x00, 0x03,
    0x03, 0x97, 0x65, 0x43, 0x21] ++
  [0x13, 0x57, 0x9B, 0xDF, 0x24, 0x68, 0xAC, 0xE0, 0xF0, 0xE1, 0xD2, 0xC3, 0xB4, 0xA5, 0x9D,
    0xD5, 0x4B, 0x60, 0x00, 0x00] ++ [0x6F, 0x77]

/-- The frame buffer that holds the first n bytes of a stream. -/
def bufferOf (bytes : List Byte) (n : Nat) : Vector Byte 56 :=
  Vector.ofFn fun o => if o.val < n then bytes.getD o.val 0 else 0

/-- A state of the FSU at POS = n of a candidate that starts at 0 of the stream given. -/
def candidate (p : Params) (st : FsuState) (n : Nat) (bytes : List Byte) : State :=
  { State.reset with params := p, st := st, pos := n, stream := bytes, fb := bufferOf bytes n }

/-- The state after the machine's next step. -/
def stepOf (s : State) : State :=
  match step s with
  | .next t => t
  | .fault _ => s
  | .refused _ => s

/-- The state after n steps. -/
def steps : Nat → State → State
  | 0, s => s
  | n + 1, s => steps n (stepOf s)

/-- ST, POS, START, CKA and CKB after an FSU step. -/
def scan (s : State) : Option (FsuState × Nat × Nat × Byte × Byte) :=
  (fsuStep s).map fun t => (t.st, t.pos, t.start, t.cka, t.ckb)

-- Trace of V-FSU-5, steps 1 to 3.
theorem test_sync_search :
    scan (candidate params .seekingSync1 0 [0x62, 0xB5]) = some (.seekingSync1, 1, 0, 0, 0) ∧
    scan (candidate params .seekingSync1 1 [0x62, 0xB5]) = some (.seekingSync2, 2, 1, 0, 0) := by
  decide +kernel

theorem test_sync_rewind :
    scan { candidate params .seekingSync2 2 [0x62, 0xB5, 0xB5] with start := 1 } =
      some (.seekingSync1, 2, 1, 0, 0) := by decide +kernel

-- R191: a byte of a live stream that has not arrived; R192: the end mark.
theorem test_stream_end :
    (fsuStep (candidate params .seekingSync1 2 [0x62, 0xB5])).isNone = true ∧
    ((fsuStep { candidate params .seekingSync1 2 [0x62, 0xB5] with ended := true }).map fun t =>
      (t.st, t.ev, t.evPos)) = some (.exhausted, .streamExhausted, 2) := by decide +kernel

-- Trace of V-FSU-4, step 4: the byte is accumulated before the test fails.
theorem test_header_mismatch :
    scan { candidate params .readingHeader 3 [0xB5, 0x62, 0x02, 0x14] with cka := 2, ckb := 2 } =
      some (.seekingSync1, 1, 0, 0x16, 0x18) := by decide +kernel

-- The filter at offset 13: V-FRAME-1 passes; V-FSU-10 (length 2) rewinds, or skips to 10.
theorem test_filter :
    (scan (candidate params .readingHeader 13 (frameBytes.take 14))).map (·.1) =
      some .readingPayload ∧
    (scan (candidate params .readingHeader 13 ((frameBytes.take 14).set 4 2))).map
      (fun t => (t.1, t.2.1)) = some (.seekingSync1, 1) ∧
    (scan (candidate skipParams .readingHeader 13 ((frameBytes.take 14).set 4 2))).map
      (fun t => (t.1, t.2.1)) = some (.seekingSync1, 10) := by decide +kernel

-- R204 at offsets 53 and 54: 53 is accumulated, 54 is not.
theorem test_payload_end :
    scan (candidate params .readingPayload 53 (List.replicate 56 0x05)) =
      some (.readingPayload, 54, 0, 0x05, 0x05) ∧
    scan (candidate params .readingPayload 54 (List.replicate 56 0x05)) =
      some (.readingPayload, 55, 0, 0x00, 0x00) := by decide +kernel

/-- V-FRAME-1 read whole, with the sums of V-ECU-1. -/
def decided (p : Params) (a b : Byte) : State :=
  { candidate p .validating 56 frameBytes with cka := a, ckb := b }

-- V-FSU-7: what accept_load writes.
theorem test_accept :
    ((fsuStep (decided params 0x6F 0x77)).map fun t =>
      decide (t.pw = frameWords ∧ t.crcCalc = 0xDD54B6 ∧ t.crcEmb = 0xDD54B6 ∧ t.crcOk = true ∧
        t.out = ⟨2, 0x13, 48, 0, 5, 4, 0, 10, 3, 2, 0, 0x6F, 0x77⟩ ∧ t.ev = .frameAccepted ∧
        t.evPos = 0 ∧ t.pos = 56 ∧ t.st = .accept)) = some true := by decide +kernel

-- V-ECU-4 with the other byte at fault: STRICT rejects, CKA_ONLY accepts.
theorem test_check_mode :
    ((fsuStep (decided params 0x6F 0x88)).map fun t => (t.st, t.ev, t.evPos, t.pos, t.crcOk)) =
      some (.reject, .checksumMismatch, 0, 1, false) ∧
    ((fsuStep (decided { params with ckMode := .ckaOnly } 0x6F 0x88)).map (·.st)) =
      some .accept ∧
    ((fsuStep (decided { params with ckMode := .ckaOnly } 0x6E 0x77)).map (·.st)) =
      some .reject := by decide +kernel

-- V-FSU-15: the words under LSB_FIRST.
theorem test_wire_order :
    ((fsuStep (decided { params with wordWireOrder := .lsbFirst } 0x6F 0x77)).map fun t =>
      (t.pw[0], t.pw[1], t.crcCalc, t.crcEmb, t.crcOk)) =
      some (0x004A148B, 0x78563412, 0xB227A6, 0x5B4000, false) := by decide +kernel

/-! ## Witnesses: concrete states and operands that meet the hypotheses of each statement -/

-- The order of R241 where two checks fail at once, and each check alone.
theorem test_decode_order :
    ([(0xA0000001, State.reset), (0x8A000001, State.reset), (0x5803E008, State.reset),
      (0x8A000000, State.reset), (0x90000000, State.reset), (0x8A000000, held 0 0),
      (0x89000000, held 0 0)].map fun (c : Word × State) =>
        match commandTurn c.1 0 0 c.2 with
        | .next t => t.cerr
        | .fault _ => .ok
        | .refused _ => .ok) =
      [.illegalOp, .reservedBits, .reservedBits, .busy, .noEvent, .range, .ok] := by decide

/-- A state in which the host presents a command next. -/
def presenting (cmd : Word) (a b : Wide) : State :=
  { held 0 0 with inputs := [.command cmd a b, .fsu] }

theorem witness_AcceptedWordIsItsEncoding : decode 0x122C0000 = .ok (.extract 4 11) := by decide

theorem witness_DecoderRejectsExactlyReservedBits :
    decode 0x12000001 = .error .reservedBits := by decide

theorem witness_StepRunsPresentedCommand :
    (presenting 0x122C0000 0xDEADBEEF 0).inputs = .command 0x122C0000 0xDEADBEEF 0 :: [.fsu] ∧
    decode 0x122C0000 = .ok (.extract 4 11) := by decide

theorem witness_StepRaisesReservedBits :
    (presenting 0x98000000 1 2).inputs = .command 0x98000000 1 2 :: [.fsu] ∧
    decode 0x98000000 = .error .reservedBits := by decide

theorem witness_PlacedWordRunsNext : decodeTableWord 32 0x9FFFFFFF = none ∧
    decodeTableWord 32 0x4F780000 = some (.scale 0xF7 true) := by decide

/-- The words of operation code `op` whose bits below `n` are not all 0: the hypotheses of the clauses
on reserved bits. -/
def hasReserved (op n : Nat) (w : Word) : Bool :=
  decide (w.toNat / 2 ^ 28 = op) && decide (w.toNat % 2 ^ n ≠ 0)

-- For each format the lowest and the highest reserved bit.
theorem witness_reserved_bit_clauses :
    [(0x0, 28, 0x00000001), (0x0, 28, 0x08000000), (0x1, 18, 0x10000001), (0x1, 18, 0x10020000),
      (0x2, 21, 0x20000001), (0x2, 21, 0x20100000), (0x3, 20, 0x30000001), (0x3, 20, 0x30080000),
      (0x4, 19, 0x40000001), (0x4, 19, 0x40040000), (0x5, 3, 0x50000001), (0x5, 3, 0x50000004),
      (0x6, 19, 0x60000001), (0x6, 19, 0x60040000), (0x7, 28, 0x70000001), (0x7, 28, 0x78000000),
      (0x8, 24, 0x80000001), (0x8, 24, 0x80800000), (0x9, 28, 0x90000001),
      (0x9, 28, 0x98000000)].all (fun x => hasReserved x.1 x.2.1 x.2.2) = true := by decide

theorem witness_ExtractReturnsBitRange :
    (31#5).toNat ≤ (31#5).toNat ∧ (0#5).toNat ≤ (31#5).toNat ∧ (30#5).toNat < (31#5).toNat := by
  decide

theorem witness_ConcatJoinsHighAndLow :
    (63#7).toNat ≤ 63 ∧ 63 < (64#7).toNat ∧
    (held 1 0xF).portB.toNat < 2 ^ (4#7).toNat ∧ ¬(held 1 0x10).portB.toNat < 2 ^ (4#7).toNat := by
  decide

theorem witness_SextFillsWithSignBit :
    (1 ≤ (1#7).toNat ∧ (32#7).toNat ≤ Container.c32.width ∧ (64#7).toNat ≤ Container.c64.width) ∧
    (0#7).toNat = 0 ∧ Container.c32.width < (33#7).toNat ∧ Container.c64.width < (65#7).toNat := by
  decide

theorem witness_ScaleIsNormalAndExactWhenSmall :
    ((2 ^ 64 : Int) ≠ 0 ∧ (2 ^ 64 : Int).natAbs ≤ 2 ^ 64 ∧ (-128 : Int) ≤ 127 ∧
      (127 : Int) ≤ 127) ∧
    (-1 : Int) ≠ 0 ∧ (2 ^ 53 - 1 : Int).natAbs < 2 ^ 53 := by decide

theorem witness_FieldReadsMessageStream :
    (256#9).toNat + ((63#6).toNat + 1) ≤ 320 ∧ 320 < (257#9).toNat + ((63#6).toNat + 1) ∧
    (1#8) ≠ 0 ∧ (0xFF#8) ≠ 0 := by decide

-- The shortest and the longest field over a boundary, at the first and at the last word.
theorem witness_FieldIsCompositionOfPrimitives :
    [(0, 31, 1, 1#6, 31#9), (0, 0, 32, 63#6, 0#9), (8, 31, 1, 1#6, 287#9),
      (8, 0, 32, 63#6, 256#9), (2, 17, 11, 25#6, 81#9)].all
      (fun (x : Nat × Nat × Nat × BitVec 6 × BitVec 9) =>
        decide (x.1 ≤ 8 ∧ x.2.1 ≤ 31 ∧ 1 ≤ x.2.2.1 ∧ x.2.2.1 ≤ 32 ∧
          x.2.2.2.1.toNat + 1 = (32 - x.2.1) + x.2.2.1 ∧
          x.2.2.2.2.toNat = 32 * x.1 + x.2.1)) = true := by decide

theorem witness_Crc24qRunsBitSerialRegister :
    (320#9).toNat ≤ 320 ∧ 320 < (321#9).toNat := by decide

theorem witness_LoadwWritesOnePayloadWord :
    (held 0 0).st = .accept ∧ (9#4).toNat ≤ 9 ∧ 9 < (10#4).toNat ∧
    ¬(State.reset.st = .accept ∨ State.reset.st = .reject ∨ State.reset.st = .exhausted) := by
  decide

/-- A rejected frame. -/
def rejected : State :=
  { State.reset with
    st := .reject, ev := .checksumMismatch, pos := 1, stream := List.replicate 56 0xB5 }

/-- The end of an empty stream. -/
def atEnd : State := { State.reset with st := .exhausted, ev := .streamExhausted, ended := true }

theorem witness_AckReleasesHold :
    (held 0 0).ev = .frameAccepted ∧ rejected.ev = .checksumMismatch ∧
    atEnd.ev = .streamExhausted ∧ State.reset.ev = .none := by decide

theorem witness_ReservedOpsRaiseIllegalOp :
    10 ≤ (0xA0000000#32).toNat / 2 ^ 28 ∧ (0xBFFFFFFF#32).toNat / 2 ^ 28 < 12 ∧
    12 ≤ (0xC0000000#32).toNat / 2 ^ 28 ∧ 12 ≤ (0xFFFFFFFF#32).toNat / 2 ^ 28 := by decide

-- An error, a value and a command with no value.
theorem witness_ResultAndErrorUpdateRule :
    (∃ t, commandTurn 0xA0000000 0 0 State.reset = .next t ∧ t.cerr ≠ .ok) ∧
    (∃ t, commandTurn 0x70000000 0 0 State.reset = .next t ∧ t.cerr = .ok) ∧
    (∃ t, commandTurn 0x00000000 0 0 State.reset = .next t ∧ t.cerr = .ok) ∧
    producesValue .crcchk = true ∧ producesValue .nop = false :=
  ⟨⟨_, rfl, by decide⟩, ⟨_, rfl, rfl⟩, ⟨_, rfl, rfl⟩, rfl, rfl⟩

theorem witness_CommandsWriteOnlyTheirRegisters :
    (∃ t, exec (.extract 0 31) (held 1 0) = .next t) ∧ (∃ t, exec .ack (held 1 0) = .next t) :=
  ⟨⟨_, rfl⟩, ⟨_, rfl⟩⟩

theorem witness_LegalCommandsSucceedInHold :
    (held 0 0).st.isHold = true ∧ (held 0 0).ev ≠ .none ∧
    atEnd.st.isHold = true ∧ atEnd.ev ≠ .none := by decide

theorem witness_MessageFieldIsBitSum :
    (31 < 32) ∧ (1 ≤ 320 ∧ 0 + 320 ≤ 320) ∧ (1 ≤ 1 ∧ 319 + 1 ≤ 320) := by decide

theorem witness_CrcIsPolynomialRemainder : 0 ≤ 320 ∧ 320 ≤ 320 := by decide

theorem witness_CheckedBitFlipChangesCrc : (0 < 1 ∧ 1 ≤ 320) ∧ (319 < 320 ∧ 320 ≤ 320) := by
  decide

theorem witness_FsuTurnTakesFsuStep :
    { State.reset with inputs := [Input.fsu] }.inputs = .fsu :: [] ∧ State.reset.inputs = [] := by
  decide

theorem witness_EndOfStreamPostsExhausted :
    let s := { candidate params .readingPayload 14 (frameBytes.take 14) with ended := true }
    s.st = .readingPayload ∧ s.ended = true ∧ s.stream.length ≤ s.pos := by decide

theorem witness_SyncSearchSteps :
    (candidate params .seekingSync1 0 [0xB5, 0x62]).stream[0]? = some 0xB5 ∧
    (candidate params .seekingSync1 0 [0x62]).stream[0]? = some 0x62 ∧
    (candidate params .seekingSync2 1 [0xB5, 0x62]).stream[1]? = some 0x62 ∧
    (candidate params .seekingSync2 1 [0xB5, 0xB5]).stream[1]? = some 0xB5 := by decide

/-- The bytes of V-FRAME-1 up to offset o, with the byte there replaced: a header to be tested. -/
def headerBytes (o : Nat) (x : Byte) : List Byte := (frameBytes.take o) ++ [x]

-- The class and id match and mismatch at offset 3; the filter passes, and fails under both policies.
theorem witness_HeaderByteStep :
    (let s := candidate params .readingHeader 2 (headerBytes 2 0x02)
     s.stream[s.pos]? = some 0x02 ∧ s.start + 2 ≤ s.pos ∧ s.pos ≤ s.start + 13) ∧
    (let fb := (bufferOf frameBytes 3).setIfInBounds 3 0x13
     frameByte fb 2 = 0x02 ∧ frameByte fb 3 = 0x13) ∧
    (let fb := (bufferOf frameBytes 3).setIfInBounds 3 0x14
     ¬(frameByte fb 2 = 0x02 ∧ frameByte fb 3 = 0x13)) ∧
    (let s := candidate params .readingHeader 13 (headerBytes 13 0x00)
     s.stream[s.pos]? = some 0x00 ∧ s.start + 2 ≤ s.pos ∧ s.pos ≤ s.start + 13) ∧
    FilterAccepts params (frameByte (bufferOf frameBytes 14)) ∧
    ¬FilterAccepts params (frameByte (bufferOf (frameBytes.set 6 1) 14)) ∧
    params.filterPolicy = .rescan ∧
    ¬FilterAccepts skipParams (frameByte (bufferOf (frameBytes.set 4 49) 14)) ∧
    skipParams.filterPolicy = .skipDeclared := by
  unfold FilterAccepts
  decide +kernel

theorem witness_PayloadByteStep :
    [14, 53, 54, 55].all (fun n =>
      let s := candidate params .readingPayload n frameBytes
      decide (s.stream[s.pos]?.isSome = true ∧ s.start + 14 ≤ s.pos ∧ s.pos ≤ s.start + 55)) =
      true := by decide +kernel

theorem witness_ValidatingStepDecides :
    (let s := decided params 0x6F 0x77
     s.st = .validating ∧ frameByte s.fb 54 = s.cka ∧ frameByte s.fb 55 = s.ckb) ∧
    (let s := decided { params with ckMode := .ckaOnly } 0x6F 0x78
     frameByte s.fb 54 = s.cka ∧ ¬s.params.ckMode = .strict) ∧
    (let s := decided params 0x6F 0x78
     ¬(frameByte s.fb 54 = s.cka ∧ (s.params.ckMode = .strict → frameByte s.fb 55 = s.ckb))) ∧
    params.wordWireOrder = .msbFirst ∧
    { params with wordWireOrder := WordWireOrder.lsbFirst }.wordWireOrder = .lsbFirst := by
  decide +kernel

-- A step that stays outside the hold states, and one into each of them.
theorem witness_FsuStepsLeaveHostRegisters :
    (∃ t, fsuStep (candidate params .seekingSync1 0 [0xB5]) = some t ∧ t.st.isHold = false) ∧
    (∃ t, fsuStep (decided params 0x6F 0x77) = some t ∧ t.st.isHold = true ∧ t.st = .accept) ∧
    (∃ t, fsuStep (decided params 0x6E 0x77) = some t ∧ t.st.isHold = true ∧ t.st ≠ .accept) :=
  ⟨⟨_, rfl, rfl⟩, ⟨_, rfl, by decide +kernel, by decide +kernel⟩,
    ⟨_, rfl, by decide +kernel, by decide +kernel⟩⟩

/-! ### States that meet the invariant -/

/-- The start of a scan over a stream. -/
def scanOf (bytes : List Byte) : State := { State.reset with params := params, stream := bytes }

theorem scanOf_inv (bytes : List Byte) : FsuInv (scanOf bytes) := by
  constructor <;>
    simp [scanOf, State.reset, heldEvent, CursorInPlace, FsuState.inCandidate,
      FsuState.checksumLive, ChecksPassed]

/-- The state before step 4 of the trace of V-FSU-4. -/
def beforeMismatch : State :=
  { candidate params .readingHeader 3 [0xB5, 0x62, 0x02, 0x14] with cka := 2, ckb := 2 }

/-- The invariant of a candidate under way before any frame was accepted: what is left to check. -/
theorem candidate_inv {s : State} (hst : s.st.inCandidate = true) (hev : s.ev = heldEvent s.st)
    (hout : s.out = OutHeader.reset) (hok : s.crcOk = false) (cursor : CursorInPlace s)
    (delivered : s.pos ≤ s.stream.length)
    (buffer : ∀ o, o < s.pos - s.start → frameByte s.fb o = frameAt s.stream s.start o)
    (checksum : s.st.checksumLive = true →
      s.cka.toNat = ckaSum (frameAt s.stream s.start) (min (s.pos - s.start) 54) % 256 ∧
      s.ckb.toNat = ckbSum (frameAt s.stream s.start) (min (s.pos - s.start) 54) % 256)
    (checks : ChecksPassed s) : FsuInv s where
  event := hev
  cursor := cursor
  delivered := fun _ => delivered
  buffer := fun _ => buffer
  checksum := checksum
  checks := checks
  accepted := fun h => by simp [h, FsuState.inCandidate] at hst
  rejected := fun h => by simp [h, FsuState.inCandidate] at hst
  exhausted := fun h => by simp [h, FsuState.inCandidate] at hst
  header := .inl hout
  crc := fun h => by simp [hok] at h

theorem beforeMismatch_inv : FsuInv beforeMismatch :=
  candidate_inv rfl rfl rfl rfl ⟨by decide, by decide⟩ (by decide) (by decide +kernel)
    (by decide +kernel) (by unfold ChecksPassed FilterAccepts; decide +kernel)

theorem atEnd_inv : FsuInv atEnd := by
  constructor <;>
    simp [atEnd, State.reset, heldEvent, CursorInPlace, FsuState.inCandidate,
      FsuState.checksumLive, ChecksPassed]

theorem rejected_inv : FsuInv rejected := by
  constructor <;>
    simp [rejected, State.reset, heldEvent, CursorInPlace, FsuState.inCandidate,
      FsuState.checksumLive, ChecksPassed]

theorem frame_valid : ValidFrameAt params frameBytes 0 := by
  unfold ValidFrameAt FilterAccepts ChecksumAccepts
  decide +kernel

-- A step that rewinds (V-FSU-4), which is also a silent rejection.
theorem witness_RewindIsBounded :
    FsuInv beforeMismatch ∧
    ∃ t, fsuStep beforeMismatch = some t ∧ t.pos < beforeMismatch.pos ∧ t.st = .seekingSync1 :=
  ⟨beforeMismatch_inv, _, rfl, by decide +kernel, by decide +kernel⟩

theorem witness_RejectionsAreSilent :
    ∃ t, fsuStep beforeMismatch = some t ∧ t.st = .seekingSync1 :=
  ⟨_, rfl, by decide +kernel⟩

theorem witness_StepKeepsFsuInvariant :
    FsuInv beforeMismatch ∧ ∃ t, step beforeMismatch = .next t := ⟨beforeMismatch_inv, _, rfl⟩

theorem witness_FsuStepSpendsBudget :
    FsuInv beforeMismatch ∧ ∃ t, fsuStep beforeMismatch = some t := ⟨beforeMismatch_inv, _, rfl⟩

theorem witness_RescanFindsEveryValidFrame :
    FsuInv (scanOf frameBytes) ∧ (scanOf frameBytes).params.filterPolicy = .rescan ∧
    (scanOf frameBytes).st = .seekingSync1 ∧ (scanOf frameBytes).pos ≤ 0 ∧
    ValidFrameAt (scanOf frameBytes).params (scanOf frameBytes).stream 0 :=
  ⟨scanOf_inv _, rfl, rfl, Nat.le_refl 0, frame_valid⟩

/-- V-FRAME-1 with the byte at offset o replaced by x, read up to POS = n, with the accumulators a and
b. -/
def altered (o : Nat) (x : Byte) (st : FsuState) (n : Nat) (a b : Byte) : State :=
  { candidate params st n (frameBytes.set o x) with cka := a, ckb := b }

/-- The candidate of `altered` differs from V-FRAME-1 at the offset o alone: the hypotheses on bytes. -/
def differsAt (s : State) (o : Nat) : Bool :=
  (List.range 56).all fun j =>
    decide (frameAt s.stream s.start j = frameAt frameBytes 0 j ↔ j ≠ o)

theorem altered_class_inv : FsuInv (altered 2 0x03 .readingHeader 3 0x03 0x03) :=
  candidate_inv rfl rfl rfl rfl ⟨by decide, by decide⟩ (by decide +kernel) (by decide +kernel)
    (by decide +kernel) (by unfold ChecksPassed FilterAccepts; decide +kernel)

theorem altered_sv_inv : FsuInv (altered 7 0x04 .validating 56 0x6E 0x48) :=
  candidate_inv rfl rfl rfl rfl rfl (by decide +kernel) (by decide +kernel)
    (by decide +kernel) (by unfold ChecksPassed FilterAccepts; decide +kernel)

theorem altered_last_inv : FsuInv (altered 53 0x01 .validating 56 0x70 0x78) :=
  candidate_inv rfl rfl rfl rfl rfl (by decide +kernel) (by decide +kernel)
    (by decide +kernel) (by unfold ChecksPassed FilterAccepts; decide +kernel)

-- Offset 2 before its class check, then offsets 7 (V-ECU-3) and 53 in VALIDATING.
theorem witness_ChangedByteIsNotAccepted :
    ValidFrameAt params frameBytes 0 ∧
    (FsuInv (altered 2 0x03 .readingHeader 3 0x03 0x03) ∧
      differsAt (altered 2 0x03 .readingHeader 3 0x03 0x03) 2 = true ∧
      ∃ t, fsuStep (altered 2 0x03 .readingHeader 3 0x03 0x03) = some t) ∧
    (FsuInv (altered 7 0x04 .validating 56 0x6E 0x48) ∧
      differsAt (altered 7 0x04 .validating 56 0x6E 0x48) 7 = true) ∧
    (FsuInv (altered 53 0x01 .validating 56 0x70 0x78) ∧
      differsAt (altered 53 0x01 .validating 56 0x70 0x78) 53 = true) :=
  ⟨frame_valid, ⟨altered_class_inv, by decide +kernel, _, rfl⟩,
    ⟨altered_sv_inv, by decide +kernel⟩, altered_last_inv, by decide +kernel⟩

-- The two states differ in a byte not yet written.
theorem witness_DeadStorageIsUnobservable :
    FsuInv beforeMismatch ∧
    SameButDeadStorage beforeMismatch { beforeMismatch with fb := beforeMismatch.fb.set 5 0xFF } ∧
    ∃ t, step beforeMismatch = .next t :=
  ⟨beforeMismatch_inv, ⟨rfl, by decide +kernel, fun _ => ⟨rfl, rfl⟩⟩, _, rfl⟩

theorem witness_HeldFrameIsStable :
    ((held 0 0).st = .accept ∧ rejected.st = .reject) ∧
    (∀ (rebind : Option Params) (rest : List Input), (held 0 0).inputs ≠ .reset rebind :: rest) ∧
    (∀ (a b : Wide) (rest : List Input), (held 0 0).inputs ≠ .command 0x90000000 a b :: rest) ∧
    ∃ t, step (held 0 0) = .next t :=
  ⟨by decide, nofun, nofun, _, rfl⟩

theorem witness_ExhaustedIsTerminal :
    FsuInv atEnd ∧ atEnd.st = .exhausted ∧
    (∀ (rebind : Option Params) (rest : List Input), atEnd.inputs ≠ .reset rebind :: rest) ∧
    ∃ t, step atEnd = .next t :=
  ⟨atEnd_inv, rfl, nofun, _, rfl⟩

theorem witness_EventLineIsHighExactlyInHold :
    (FsuInv rejected ∧ rejected.evPending = true) ∧
    (FsuInv beforeMismatch ∧ beforeMismatch.evPending = false) :=
  ⟨⟨rejected_inv, rfl⟩, beforeMismatch_inv, rfl⟩

theorem witness_ResetStartsNewRun :
    { held 0 0 with inputs := [Input.reset none, .fsu] }.inputs = .reset none :: [.fsu] ∧
    { held 0 0 with inputs := [Input.reset (some params)] }.inputs = .reset (some params) :: [] :=
  ⟨rfl, rfl⟩

theorem witness_ParametersChangeOnlyAtReset :
    ∃ t, step { held 0 0 with inputs := [.reset (some skipParams)] } = .next t ∧
      t.params ≠ (held 0 0).params := ⟨_, rfl, by decide⟩

theorem witness_StreamGrowsOnlyByProducer :
    (∀ (rebind : Option Params) (rest : List Input),
      { held 0 0 with inputs := [.deliver [0xB5]] }.inputs ≠ .reset rebind :: rest) ∧
    (∃ t, step { held 0 0 with inputs := [.deliver [0xB5]] } = .next t ∧ t.stream = [0xB5]) ∧
    atEnd.ended = true ∧
    (∀ (bytes : List Byte) (rest : List Input), atEnd.inputs ≠ .deliver bytes :: rest) :=
  ⟨nofun, ⟨_, rfl, rfl⟩, rfl, nofun⟩

/-! ### A reachable state in ACCEPT -/

theorem stepOf_reachable {s : State} (h : Reachable s) : Reachable (stepOf s) := by
  unfold stepOf
  split
  · exact .step h ‹_›
  · exact h
  · exact h

theorem steps_reachable (n : Nat) {s : State} (h : Reachable s) : Reachable (steps n s) := by
  induction n generalizing s with
  | zero => exact h
  | succ n ih => exact ih (stepOf_reachable h)

/-- The run over V-FRAME-1 up to its acceptance: its delivery, then 57 FSU steps (V-FSU-7). -/
def acceptedRun : State :=
  steps 58 { State.reset with params := params, inputs := [.deliver frameBytes] }

theorem witness_AcceptedFramesAreValid : Reachable acceptedRun ∧ acceptedRun.st = .accept :=
  ⟨steps_reachable 58 (.reset params _), by decide +kernel⟩

end Sys2Proof.Tests
end

section
/-! The message stream as a sequence of bits (00_scope.md R8, R9). -/

namespace Sys2Proof.Machine

theorem payloadWord_fin (pw : Vector Word 10) (k : Fin 10) : payloadWord pw k.val = pw[k] := by
  simp [payloadWord]

theorem msb0_eq_getLsbD (w : Word) {p : Nat} (hp : p < 32) : msb0 w p = w.getLsbD (31 - p) := by
  simp [msb0, BitVec.getMsbD, hp]

theorem sbit_word_position (pw : Vector Word 10) (k : Nat) {p : Nat} (hp : p < 32) :
    sbit pw (32 * k + p) = msb0 (payloadWord pw k) p := by
  have hword : (32 * k + p) / 32 = k := by omega
  have hpos : (32 * k + p) % 32 = p := by omega
  rw [sbit, hword, hpos]

theorem sfield_succ (pw : Vector Word 10) (p w : Nat) :
    sfield pw p (w + 1) = 2 * sfield pw p w + (sbit pw (p + w)).toNat := rfl

/-- Reading one more bit at the end doubles the weight of every bit read before it, and the new bit
has weight 1. -/
theorem sfield_eq_sum (pw : Vector Word 10) (p w : Nat) :
    sfield pw p w = ∑ j ∈ Finset.range w, (sbit pw (p + j)).toNat * 2 ^ (w - 1 - j) := by
  induction w with
  | zero => rfl
  | succ w ih =>
    have doubled_weight (j : Nat) (hj : j ∈ Finset.range w) :
        2 * ((sbit pw (p + j)).toNat * 2 ^ (w - 1 - j)) =
          (sbit pw (p + j)).toNat * 2 ^ (w - j) := by
      have hexp : w - j = w - 1 - j + 1 := by have := Finset.mem_range.mp hj; omega
      rw [hexp]; ring
    calc sfield pw p (w + 1)
        = 2 * sfield pw p w + (sbit pw (p + w)).toNat := sfield_succ pw p w
      _ = ∑ j ∈ Finset.range w, (sbit pw (p + j)).toNat * 2 ^ (w - j)
            + (sbit pw (p + w)).toNat := by
          rw [ih, Finset.mul_sum, Finset.sum_congr rfl doubled_weight]
      _ = ∑ j ∈ Finset.range (w + 1), (sbit pw (p + j)).toNat * 2 ^ (w + 1 - 1 - j) := by
          simp [Finset.sum_range_succ]

/-- Settles O25: the position arithmetic of R9 for the bits, and induction on the width for the
fields. -/
theorem messageFieldIsBitSum : Obligations.MessageFieldIsBitSum := by
  intro pw
  refine ⟨fun k p hp => ?_, fun p w _ _ => sfield_eq_sum pw p w⟩
  rw [sbit_word_position pw k hp, payloadWord_fin, msb0_eq_getLsbD _ hp]

end Sys2Proof.Machine
end

section
/-! Whose turn a step is, and what a command leaves to the frame synchronizer (10_state.md R34,
R35). -/

namespace Sys2Proof.Machine

/-- The turn that one input names. -/
def turnOf : Input → State → Host.Outcome State Fault Refusal
  | .fsu => fsuTurn
  | .command cmd a b => commandTurn cmd a b
  | .deliver bytes => deliverTurn bytes
  | .endOfStream => endTurn
  | .reset rebind => resetTurn rebind

/-- A step is the turn of the next input, and the FSU's turn when there is none (log 1). -/
theorem step_eq_turnOf (s : State) :
    step s = turnOf (s.inputs.headD .fsu) (s.setInputs s.inputs.tail) := by
  unfold step takeTurn
  split
  case h_1 hnil =>
    have hself : s.setInputs s.inputs.tail = s := by rw [hnil, List.tail_nil, ← hnil]; rfl
    rw [hself, hnil]; rfl
  all_goals next hcons => rw [hcons]; rfl

/-- Settles O23: each case of `exec_cases` is an update of the registers named. -/
theorem commandsWriteOnlyTheirRegisters : Obligations.CommandsWriteOnlyTheirRegisters := by
  intro i s t h
  rcases exec_cases i s with ⟨c, -, heq⟩ | ⟨-, v, heq⟩ | ⟨-, heq⟩ | ⟨k, rfl, -, -, heq⟩ |
    ⟨rfl, -, heq⟩ | ⟨rfl, -, heq⟩ <;> cases heq.symm.trans h
  case inr.inr.inr.inl => exact ⟨rfl, fun hne => absurd rfl (hne k), fun _ => ⟨rfl, rfl⟩⟩
  case inr.inr.inr.inr.inl => exact ⟨rfl, fun _ => rfl, fun hne => absurd rfl hne⟩
  all_goals exact ⟨rfl, fun _ => rfl, fun _ => ⟨rfl, rfl⟩⟩

/-- What a command does to ST and EV: nothing, or the event return from a frame event (44_control.md
R244). -/
theorem exec_st_ev_cases {i : Instr} {s t : State} (h : exec i s = .next t) :
    (t.st = s.st ∧ t.ev = s.ev) ∨
    ((s.ev = .frameAccepted ∨ s.ev = .checksumMismatch) ∧ t.st = .seekingSync1 ∧ t.ev = .none) := by
  by_cases hack : i = .ack
  · subst hack
    rcases execAck_cases s with ⟨-, ha⟩ | ⟨hev, ha⟩ | ⟨-, ha⟩ <;> cases ha.symm.trans h
    · exact .inl ⟨rfl, rfl⟩
    · exact .inr ⟨hev, rfl, rfl⟩
    · exact .inl ⟨rfl, rfl⟩
  · obtain ⟨-, -, hkept⟩ := commandsWriteOnlyTheirRegisters i s t h
    exact .inl (hkept hack)

/-- A command step is a decoded command, or the RESERVED_BITS error (44_control.md R241). -/
theorem commandTurn_cases (cmd : Word) (a b : Wide) (s : State) :
    (∃ i, commandTurn cmd a b s = exec i (s.presentOperands a b)) ∨
    commandTurn cmd a b s = .next ((s.presentOperands a b).raiseCmdError .reservedBits) := by
  unfold commandTurn
  split
  · next i _ => exact .inl ⟨i, rfl⟩
  · exact .inr rfl

end Sys2Proof.Machine
end

section
/-! Ways to meet the frame synchronizer's invariant: in the search for SYNC1, under writes that the
synchronizer does not see, and while the stream grows. -/

namespace Sys2Proof.Machine

/-- In the search for SYNC1 nothing of a candidate is left to check. -/
theorem fsuInv_of_search {s t : State} (h : FsuInv s) (hst : t.st = .seekingSync1)
    (hev : t.ev = .none) (hout : t.out = s.out) (hparams : t.params = s.params)
    (hok : t.crcOk = s.crcOk) (hcalc : t.crcCalc = s.crcCalc) (hemb : t.crcEmb = s.crcEmb) :
    FsuInv t where
  event := by rw [hev, hst]; rfl
  cursor := by simp [CursorInPlace, hst]
  delivered := by simp [hst, FsuState.inCandidate]
  buffer := by simp [hst, FsuState.inCandidate]
  checksum := by simp [hst, FsuState.checksumLive]
  checks := by simp [ChecksPassed, hst, FsuState.inCandidate, FsuState.checksumLive]
  accepted := by simp [hst]
  rejected := by simp [hst]
  exhausted := by simp [hst]
  header := by rw [hout, hparams]; exact h.header
  crc := by rw [hok, hcalc, hemb]; exact h.crc

/-- The invariant says nothing of PW, RES, CERR, the ports and the inputs. -/
theorem fsuInv_of_host_writes {s t : State} (h : FsuInv s)
    (ht : t = { s with
      pw := t.pw, res := t.res, cerr := t.cerr, portA := t.portA, portB := t.portB,
      inputs := t.inputs }) : FsuInv t := by
  rw [ht]
  exact ⟨h.event, h.cursor, h.delivered, h.buffer, h.checksum, h.checks, h.accepted, h.rejected,
    h.exhausted, h.header, h.crc⟩

theorem fsuInv_reset (p : Params) (inputs : List Input) :
    FsuInv { State.reset with params := p, inputs := inputs } := by
  constructor <;>
    simp [State.reset, heldEvent, CursorInPlace, FsuState.inCandidate, FsuState.checksumLive,
      ChecksPassed]

/-! ## Commands -/

theorem exec_keeps_fsuInv {i : Instr} {s t : State} (h : FsuInv s) (hstep : exec i s = .next t) :
    FsuInv t := by
  obtain ⟨hframe, -, -⟩ := commandsWriteOnlyTheirRegisters i s t hstep
  rcases exec_st_ev_cases hstep with ⟨hst, hev⟩ | ⟨-, hst, hev⟩
  · refine fsuInv_of_host_writes h ?_
    rw [hst, hev] at hframe
    rw [hframe]
  · refine fsuInv_of_search h hst hev ?_ ?_ ?_ ?_ ?_ <;> rw [hframe]

theorem commandTurn_keeps_fsuInv {cmd : Word} {a b : Wide} {s t : State} (h : FsuInv s)
    (hstep : commandTurn cmd a b s = .next t) : FsuInv t := by
  have hports : FsuInv (s.presentOperands a b) := fsuInv_of_host_writes h rfl
  rcases commandTurn_cases cmd a b s with ⟨i, hi⟩ | herr
  · exact exec_keeps_fsuInv hports (hi.symm.trans hstep)
  · cases herr.symm.trans hstep
    exact fsuInv_of_host_writes hports rfl

/-! ## Valid frames -/

theorem checksumAccepts_congr {p : Params} {b c : Nat → Byte} (h : ∀ o, o < 56 → b o = c o) :
    ChecksumAccepts p b ↔ ChecksumAccepts p c := by
  have hlow (o : Nat) (ho : o < 54) : b o = c o := h o (by omega)
  unfold ChecksumAccepts
  rw [h 54 (by decide), h 55 (by decide), ckaSum_congr hlow, ckbSum_congr hlow]

theorem validFrameAt_append {p : Params} {stream : List Byte} {f : Nat} (more : List Byte)
    (h : ValidFrameAt p stream f) : ValidFrameAt p (stream ++ more) f := by
  obtain ⟨hlen, h0, h1, h2, h3, hfilter, hsum⟩ := h
  have hsame (o : Nat) (ho : o < 56) : frameAt (stream ++ more) f o = frameAt stream f o :=
    frameAt_append stream more (by omega)
  refine ⟨by rw [List.length_append]; omega, ?_, ?_, ?_, ?_, ?_, ?_⟩
  · rw [hsame 0 (by decide), h0]
  · rw [hsame 1 (by decide), h1]
  · rw [hsame 2 (by decide), h2]
  · rw [hsame 3 (by decide), h3]
  · exact (filterAccepts_congr fun o ho => hsame o (by omega)).mpr hfilter
  · exact (checksumAccepts_congr hsame).mpr hsum

/-! ## The cursor of a candidate -/

theorem FsuInv.pos_of_seekingSync2 {s : State} (h : FsuInv s) (hst : s.st = .seekingSync2) :
    s.pos = s.start + 1 := by
  have hcur := h.cursor
  simpa [CursorInPlace, hst] using hcur

theorem FsuInv.pos_of_readingHeader {s : State} (h : FsuInv s) (hst : s.st = .readingHeader) :
    s.start + 2 ≤ s.pos ∧ s.pos ≤ s.start + 13 := by
  have hcur := h.cursor
  simpa [CursorInPlace, hst] using hcur

theorem FsuInv.pos_of_readingPayload {s : State} (h : FsuInv s) (hst : s.st = .readingPayload) :
    s.start + 14 ≤ s.pos ∧ s.pos ≤ s.start + 55 := by
  have hcur := h.cursor
  simpa [CursorInPlace, hst] using hcur

theorem FsuInv.pos_of_validating {s : State} (h : FsuInv s) (hst : s.st = .validating) :
    s.pos = s.start + 56 := by
  have hcur := h.cursor
  simpa [CursorInPlace, hst] using hcur

theorem FsuState.inCandidate_of_checksumLive {st : FsuState} (h : st.checksumLive = true) :
    st.inCandidate = true := by
  cases st <;> simp_all [FsuState.checksumLive, FsuState.inCandidate]

/-- Where the cursor stands while a candidate is under way. -/
theorem cursor_of_inCandidate {s : State} (h : CursorInPlace s) (hst : s.st.inCandidate = true) :
    s.start + 1 ≤ s.pos ∧ s.pos ≤ s.start + 56 := by
  cases hs : s.st <;> simp only [hs, FsuState.inCandidate, Bool.false_eq_true] at hst <;>
    simp only [CursorInPlace, hs] at h <;> omega

/-- Where the cursor stands while the accumulators are live. -/
theorem cursor_of_checksumLive {s : State} (h : CursorInPlace s)
    (hst : s.st.checksumLive = true) : s.start + 2 ≤ s.pos ∧ s.pos ≤ s.start + 56 := by
  cases hs : s.st <;> simp only [hs, FsuState.checksumLive, Bool.false_eq_true] at hst <;>
    simp only [CursorInPlace, hs] at h <;> omega

/-! ## The stream -/

/-- Bytes that arrive later change nothing of the candidate's bytes already read. -/
theorem frameAt_append_of_read {s : State} (h : FsuInv s) (more : List Byte)
    (hc : s.st.inCandidate = true) {o : Nat} (ho : s.start + o < s.pos) :
    frameAt (s.stream ++ more) s.start o = frameAt s.stream s.start o :=
  frameAt_append _ _ (Nat.lt_of_lt_of_le ho (h.delivered hc))

theorem checksPassed_append {s : State} (h : FsuInv s) (more : List Byte) :
    ChecksPassed { s with stream := s.stream ++ more } := by
  obtain ⟨hsync1, hsync2, hclass, hfilter⟩ := h.checks
  refine ⟨fun hc => ?_, fun hl => ?_, fun hl (hpos : s.start + 4 ≤ s.pos) => ?_,
    fun hl (hpos : s.start + 14 ≤ s.pos) => ?_⟩
  · have := cursor_of_inCandidate h.cursor hc
    exact (frameAt_append_of_read h more hc (by omega)).trans (hsync1 hc)
  all_goals have hc := FsuState.inCandidate_of_checksumLive hl
  · have := cursor_of_checksumLive h.cursor hl
    exact (frameAt_append_of_read h more hc (by omega)).trans (hsync2 hl)
  · obtain ⟨hcls, hid⟩ := hclass hl hpos
    exact ⟨(frameAt_append_of_read h more hc (by omega)).trans hcls,
      (frameAt_append_of_read h more hc (by omega)).trans hid⟩
  · exact (filterAccepts_congr fun o ho =>
      frameAt_append_of_read h more hc (by omega)).mpr (hfilter hl hpos)

/-- Setting the end mark or growing a live stream leaves the cursor in its place. -/
theorem cursorInPlace_of_stream {s t : State} (h : CursorInPlace s) (hst : t.st = s.st)
    (hpos : t.pos = s.pos) (hstart : t.start = s.start)
    (hend : s.ended = true → t.ended = true ∧ t.stream = s.stream) : CursorInPlace t := by
  unfold CursorInPlace at h ⊢
  rw [hst, hpos, hstart]
  cases hs : s.st <;> rw [hs] at h
  case exhausted =>
    obtain ⟨he, hlen⟩ := h
    obtain ⟨het, hstream⟩ := hend he
    exact ⟨het, by rw [hstream]; exact hlen⟩
  all_goals exact h

theorem fsuInv_append {s : State} (h : FsuInv s) (hended : s.ended = false) (more : List Byte) :
    FsuInv { s with stream := s.stream ++ more } where
  event := h.event
  cursor := cursorInPlace_of_stream h.cursor rfl rfl rfl (by simp [hended])
  delivered hc := by
    have := h.delivered hc
    simp only [List.length_append]; omega
  buffer hc o ho :=
    (h.buffer hc o ho).trans (frameAt_append_of_read h more hc (by simp at ho; omega)).symm
  checksum hl := by
    have hc := FsuState.inCandidate_of_checksumLive hl
    obtain ⟨ha, hb⟩ := h.checksum hl
    have hread (o : Nat) (ho : o < min (s.pos - s.start) 54) :=
      frameAt_append_of_read h more hc (o := o) (by omega)
    exact ⟨ha.trans (by rw [ckaSum_congr hread]), hb.trans (by rw [ckbSum_congr hread])⟩
  checks := checksPassed_append h more
  accepted hst := by
    obtain ⟨hvalid, hheader, hev⟩ := h.accepted hst
    obtain ⟨hlen, -⟩ := id hvalid
    have hread (o : Nat) (ho : o < 56) :
        frameAt (s.stream ++ more) s.start o = frameAt s.stream s.start o :=
      frameAt_append s.stream more (by omega)
    exact ⟨validFrameAt_append more hvalid, (headerOfFrame_congr hread).mpr hheader, hev⟩
  rejected hst := by
    obtain ⟨hev, hlen⟩ := h.rejected hst
    exact ⟨hev, by simp only [List.length_append]; omega⟩
  exhausted hst := by
    have hcur := h.cursor
    replace hst : s.st = .exhausted := hst
    simp [CursorInPlace, hst, hended] at hcur
  header := h.header
  crc := h.crc

theorem deliverTurn_keeps_fsuInv {bytes : List Byte} {s t : State} (h : FsuInv s)
    (hstep : deliverTurn bytes s = .next t) : FsuInv t := by
  unfold deliverTurn at hstep
  split at hstep <;> cases hstep
  · exact h
  · next hended => exact fsuInv_append h (by simpa using hended) bytes

theorem endTurn_keeps_fsuInv {s t : State} (h : FsuInv s) (hstep : endTurn s = .next t) :
    FsuInv t := by
  cases hstep
  have hcursor : CursorInPlace { s with ended := true } :=
    cursorInPlace_of_stream h.cursor rfl rfl rfl fun _ => ⟨rfl, rfl⟩
  exact ⟨h.event, hcursor, h.delivered, h.buffer, h.checksum, h.checks, h.accepted, h.rejected,
    h.exhausted, h.header, h.crc⟩

end Sys2Proof.Machine
end

section
/-! The frame synchronizer's own steps keep its invariant (43_frame_sync.md R190 to R208). -/

namespace Sys2Proof.Machine

/-- The byte just read joins the part of the buffer that mirrors the stream (10_state.md R27). -/
theorem buffer_of_storeByte {fb : Vector Byte 56} {b : Nat → Byte} {o : Nat}
    (h : ∀ j, j < o → frameByte fb j = b j) (ho : o < 56) :
    ∀ j, j < o + 1 → frameByte (fb.setIfInBounds o (b o)) j = b j := by
  intro j hj
  rw [frameByte_setIfInBounds _ _ _ _ ho]
  split
  · next heq => rw [heq]
  · exact h j (by omega)

/-- The byte read at index p is the candidate's byte at offset p - START (R193). -/
theorem frameAt_of_read {stream : List Byte} {start p : Nat} {x : Byte} (hx : stream[p]? = some x)
    (hle : start ≤ p) : frameAt stream start (p - start) = x :=
  frameAt_of_getElem? (by rwa [Nat.add_sub_cancel' hle])

/-! ## SEEKING_SYNC1 and SEEKING_SYNC2 -/

theorem seekSync1_keeps_fsuInv {s : State} {x : Byte} (h : FsuInv s) (hst : s.st = .seekingSync1)
    (hx : s.stream[s.pos]? = some x) : FsuInv (s.advance.seekSync1 s.pos x) := by
  have hev : s.ev = .none := by rw [h.event, hst]; rfl
  have hbyte : frameAt s.stream s.pos 0 = x := frameAt_of_getElem? hx
  have hlen := lt_length_of_getElem? hx
  rcases seekSync1_cases s.advance s.pos x with ⟨hsync, heq⟩ | ⟨-, heq⟩ <;> rw [heq]
  · exact {
      event := hev
      cursor := rfl
      delivered := fun _ => hlen
      buffer := fun _ o ho => by
        have hzero : o = 0 := by simp at ho; omega
        subst hzero
        exact (frameByte_setIfInBounds_self _ _ _ (by decide)).trans hbyte.symm
      checksum := nofun
      checks := ⟨fun _ => hbyte.trans hsync, nofun, nofun, nofun⟩
      accepted := nofun
      rejected := nofun
      exhausted := nofun
      header := h.header
      crc := h.crc }
  · exact fsuInv_of_search h hst hev rfl rfl rfl rfl rfl

theorem seekSync2_keeps_fsuInv {s : State} {x : Byte} (h : FsuInv s) (hst : s.st = .seekingSync2)
    (hx : s.stream[s.pos]? = some x) : FsuInv (s.advance.seekSync2 x) := by
  have hev : s.ev = .none := by rw [h.event, hst]; rfl
  have hcand : s.st.inCandidate = true := by rw [hst]; rfl
  have hpos := h.pos_of_seekingSync2 hst
  have hbyte : frameAt s.stream s.start 1 = x := frameAt_of_getElem? (hpos ▸ hx)
  have hread : s.pos + 1 - s.start = 2 := by omega
  obtain ⟨hsync1, -⟩ := h.checks
  rcases seekSync2_cases s.advance x with ⟨hsync, heq⟩ | ⟨-, heq⟩ <;> rw [heq]
  · exact {
      event := hev
      cursor := by simp [CursorInPlace]; omega
      delivered := fun _ => lt_length_of_getElem? hx
      buffer := fun _ o (ho : o < s.pos + 1 - s.start) => by
        have hfirst (j : Nat) (hj : j < 1) : frameByte s.fb j = frameAt s.stream s.start j :=
          h.buffer hcand j (by omega)
        exact hbyte ▸ buffer_of_storeByte hfirst (by decide) o (by omega)
      checksum := fun _ => by simp [hread, ckaSum_two, ckbSum_two]
      checks := by
        refine ⟨fun _ => hsync1 hcand, fun _ => hbyte.trans hsync, fun _ hlate => ?_,
          fun _ hlate => ?_⟩ <;> simp at hlate <;> omega
      accepted := nofun
      rejected := nofun
      exhausted := nofun
      header := h.header
      crc := h.crc }
  · exact fsuInv_of_search h rfl hev rfl rfl rfl rfl rfl

/-! ## READING_HEADER and READING_PAYLOAD -/

theorem heldEvent_of_checksumLive {st : FsuState} (h : st.checksumLive = true) :
    heldEvent st = .none := by
  cases st <;> simp_all [FsuState.checksumLive, heldEvent]

/-- The byte at offset o ≤ 53 joins the sums (R198, R204). -/
theorem sums_of_ecuUpdate {s : State} {x : Byte} (h : FsuInv s) (hl : s.st.checksumLive = true)
    (hx : s.stream[s.pos]? = some x) (h53 : s.pos ≤ s.start + 53) :
    (s.ecuUpdate x).cka.toNat =
      ckaSum (frameAt s.stream s.start) (min (s.pos + 1 - s.start) 54) % 256 ∧
    (s.ecuUpdate x).ckb.toNat =
      ckbSum (frameAt s.stream s.start) (min (s.pos + 1 - s.start) 54) % 256 := by
  obtain ⟨hlow, -⟩ := cursor_of_checksumLive h.cursor hl
  obtain ⟨ha, hb⟩ := h.checksum hl
  have hold : min (s.pos - s.start) 54 = s.pos - s.start := by omega
  have hnew : min (s.pos + 1 - s.start) 54 = s.pos - s.start + 1 := by omega
  rw [hold] at ha hb
  rw [hnew, ← frameAt_of_read hx (start := s.start) (by omega)]
  exact ecuUpdate_sums (by omega) ha hb

/-- The trailing bytes at offsets 54 and 55 do not join the sums (R204). -/
theorem sums_of_trailing_byte {s : State} (h : FsuInv s) (hl : s.st.checksumLive = true)
    (h53 : s.start + 53 < s.pos) :
    s.cka.toNat = ckaSum (frameAt s.stream s.start) (min (s.pos + 1 - s.start) 54) % 256 ∧
    s.ckb.toNat = ckbSum (frameAt s.stream s.start) (min (s.pos + 1 - s.start) 54) % 256 := by
  have hsame : min (s.pos + 1 - s.start) 54 = min (s.pos - s.start) 54 := by omega
  rw [hsame]
  exact h.checksum hl

/-- A candidate past its sync bytes reads one byte more and stays under way: only the sums, the place
of the cursor, and the check that is due at this very byte are left to show. -/
theorem fsuInv_of_candidate_byte {s : State} {x : Byte} {st : FsuState} {a b : Byte}
    (h : FsuInv s) (hl : s.st.checksumLive = true) (hx : s.stream[s.pos]? = some x)
    (hlt : st.checksumLive = true)
    (hcur : CursorInPlace { s with st := st, pos := s.pos + 1 })
    (hsums : a.toNat = ckaSum (frameAt s.stream s.start) (min (s.pos + 1 - s.start) 54) % 256 ∧
      b.toNat = ckbSum (frameAt s.stream s.start) (min (s.pos + 1 - s.start) 54) % 256)
    (hclass : s.pos = s.start + 3 →
      classIdMatches (s.fb.setIfInBounds (s.pos - s.start) x) = true)
    (hfilter : s.pos = s.start + 13 →
      filterPasses s.params (s.fb.setIfInBounds (s.pos - s.start) x) = true) :
    FsuInv { s with
      st := st, pos := s.pos + 1, fb := s.fb.setIfInBounds (s.pos - s.start) x,
      cka := a, ckb := b } := by
  have hcand := FsuState.inCandidate_of_checksumLive hl
  obtain ⟨hlow, -⟩ := cursor_of_checksumLive h.cursor hl
  obtain ⟨-, hhigh⟩ := cursor_of_checksumLive hcur hlt
  replace hhigh : s.pos + 1 ≤ s.start + 56 := hhigh
  have hbyte := frameAt_of_read hx (start := s.start) (by omega)
  have hbuffer (o : Nat) (ho : o < s.pos - s.start + 1) :
      frameByte (s.fb.setIfInBounds (s.pos - s.start) x) o = frameAt s.stream s.start o :=
    hbyte ▸ buffer_of_storeByte (h.buffer hcand) (by omega) o ho
  obtain ⟨hsync1, hsync2, hpastClass, hpastFilter⟩ := h.checks
  have hev : s.ev = heldEvent st := by
    rw [h.event, heldEvent_of_checksumLive hl, heldEvent_of_checksumLive hlt]
  exact {
    event := hev
    cursor := hcur
    delivered := fun _ => lt_length_of_getElem? hx
    buffer := fun _ o (ho : o < s.pos + 1 - s.start) => hbuffer o (by omega)
    checksum := fun _ => hsums
    checks := by
      refine ⟨fun _ => hsync1 hcand, fun _ => hsync2 hl,
        fun _ (hpos : s.start + 4 ≤ s.pos + 1) => ?_,
        fun _ (hpos : s.start + 14 ≤ s.pos + 1) => ?_⟩
      · by_cases hdue : s.pos = s.start + 3
        · have hmatch := (classIdMatches_iff _).mp (hclass hdue)
          rwa [hbuffer 2 (by omega), hbuffer 3 (by omega)] at hmatch
        · exact hpastClass hl (by omega)
      · by_cases hdue : s.pos = s.start + 13
        · exact (filterAccepts_congr fun o ho => hbuffer o (by omega)).mp
            ((filterPasses_iff _ _).mp (hfilter hdue))
        · exact hpastFilter hl (by omega)
    accepted := fun hst => by simp at hst; simp [hst, FsuState.checksumLive] at hlt
    rejected := fun hst => by simp at hst; simp [hst, FsuState.checksumLive] at hlt
    exhausted := fun hst => by simp at hst; simp [hst, FsuState.checksumLive] at hlt
    header := h.header
    crc := h.crc }

theorem readHeader_keeps_fsuInv {s : State} {x : Byte} (h : FsuInv s)
    (hst : s.st = .readingHeader) (hx : s.stream[s.pos]? = some x) :
    FsuInv (s.advance.readHeader (s.pos - s.start) x) := by
  have hl : s.st.checksumLive = true := by rw [hst]; rfl
  have hev : s.ev = .none := by rw [h.event, hst]; rfl
  obtain ⟨hlow, hhigh⟩ := h.pos_of_readingHeader hst
  have hsums := sums_of_ecuUpdate h hl hx (by omega)
  have hstay (hne : s.pos ≠ s.start + 13) (hclass : s.pos = s.start + 3 →
      classIdMatches (s.fb.setIfInBounds (s.pos - s.start) x) = true) :
      FsuInv ((s.advance.storeByte (s.pos - s.start) x).ecuUpdate x) := by
    have hnext := fsuInv_of_candidate_byte (st := .readingHeader) h hl hx rfl
      ⟨by simp; omega, by simp; omega⟩ hsums hclass (fun heq => absurd heq hne)
    rwa [← hst] at hnext
  unfold State.readHeader
  rcases headerTests_cases ((s.advance.storeByte (s.pos - s.start) x).ecuUpdate x)
    (s.pos - s.start) with ⟨ho, hclass, heq⟩ | ⟨-, -, heq⟩ | ⟨ho, hfilter, heq⟩ | ⟨-, -, heq⟩ |
      ⟨h3, h13, heq⟩ <;> rw [heq]
  · exact hstay (by omega) fun _ => hclass
  · exact fsuInv_of_search h rfl hev rfl rfl rfl rfl rfl
  · exact fsuInv_of_candidate_byte (st := .readingPayload) h hl hx rfl
      ⟨by simp; omega, by simp; omega⟩ hsums (fun _ => by omega) fun _ => hfilter
  · rcases filterFailure_cases ((s.advance.storeByte (s.pos - s.start) x).ecuUpdate x) with
      ⟨-, hfail⟩ | ⟨-, hfail⟩ <;> rw [hfail] <;>
      exact fsuInv_of_search h rfl hev rfl rfl rfl rfl rfl
  · exact hstay (by omega) fun _ => by omega

theorem readPayload_keeps_fsuInv {s : State} {x : Byte} (h : FsuInv s)
    (hst : s.st = .readingPayload) (hx : s.stream[s.pos]? = some x) :
    FsuInv (s.advance.readPayload (s.pos - s.start) x) := by
  have hl : s.st.checksumLive = true := by rw [hst]; rfl
  obtain ⟨hlow, hhigh⟩ := h.pos_of_readingPayload hst
  rcases readPayload_cases s.advance (s.pos - s.start) x with ⟨ho, heq⟩ | ⟨ho, hne, heq⟩ | ⟨ho, heq⟩
    <;> rw [heq]
  · have hnext := fsuInv_of_candidate_byte (st := .readingPayload) h hl hx rfl
      ⟨by simp; omega, by simp; omega⟩ (sums_of_ecuUpdate h hl hx (by omega)) (fun _ => by omega)
      (fun _ => by omega)
    rwa [← hst] at hnext
  · have hnext := fsuInv_of_candidate_byte (st := .readingPayload) h hl hx rfl
      ⟨by simp; omega, by simp; omega⟩ (sums_of_trailing_byte h hl (by omega)) (fun _ => by omega)
      (fun _ => by omega)
    rwa [← hst] at hnext
  · exact fsuInv_of_candidate_byte (st := .validating) h hl hx rfl (by simp [CursorInPlace]; omega)
      (sums_of_trailing_byte h hl (by omega)) (fun _ => by omega) (fun _ => by omega)

/-! ## VALIDATING -/

/-- A candidate in VALIDATING whose trailing bytes match the accumulators is a valid frame. -/
theorem validFrameAt_of_ckOk {s : State} (h : FsuInv s) (hst : s.st = .validating)
    (hok : s.ckOk = true) : ValidFrameAt s.params s.stream s.start := by
  have hl : s.st.checksumLive = true := by rw [hst]; rfl
  have hcand := FsuState.inCandidate_of_checksumLive hl
  have hpos := h.pos_of_validating hst
  obtain ⟨hsync1, hsync2, hclass, hfilter⟩ := h.checks
  obtain ⟨hcls, hid⟩ := hclass hl (by omega)
  obtain ⟨hcka, hckb⟩ := h.checksum hl
  obtain ⟨h54, h55⟩ := (ckOk_iff s).mp hok
  have hall : min (s.pos - s.start) 54 = 54 := by omega
  rw [hall] at hcka hckb
  rw [h.buffer hcand 54 (by omega)] at h54
  refine ⟨hpos ▸ h.delivered hcand, hsync1 hcand, hsync2 hl, hcls, hid, hfilter hl (by omega),
    by rw [h54, hcka], fun hstrict => ?_⟩
  have h55 := h55 hstrict
  rw [h.buffer hcand 55 (by omega)] at h55
  rw [h55, hckb]

/-- The header of a valid frame holds the values that the block accepts (10_state.md R29). -/
theorem header_of_validFrameAt {p : Params} {stream : List Byte} {f : Nat} {out : OutHeader}
    (h : ValidFrameAt p stream f) (hout : HeaderOfFrame out (frameAt stream f)) :
    out.cls = 0x02 ∧ out.id = 0x13 ∧ out.len = 48 ∧ out.gnss = 0x00 ∧
      selectsL2c p out.res0 = true := by
  obtain ⟨-, -, -, hcls, hid, ⟨hgnss, hband, hlen⟩, -⟩ := h
  obtain ⟨ocls, oid, olen, ognss, -, ores0, -⟩ := hout
  exact ⟨ocls.trans hcls, oid.trans hid, BitVec.eq_of_toNat_eq (olen.trans hlen),
    ognss.trans hgnss, by rw [ores0, hband]⟩

theorem validate_keeps_fsuInv {s : State} (h : FsuInv s) (hst : s.st = .validating) :
    FsuInv s.validate := by
  have hcand : s.st.inCandidate = true := by rw [hst]; rfl
  have hpos := h.pos_of_validating hst
  rcases validate_cases s with ⟨hok, heq⟩ | ⟨-, heq⟩ <;> rw [heq]
  · have hvalid := validFrameAt_of_ckOk h hst hok
    have hheader : HeaderOfFrame (outHeader s.fb) (frameAt s.stream s.start) :=
      (headerOfFrame_congr fun o ho => h.buffer hcand o (by omega)).mp (outHeader_headerOfFrame s.fb)
    exact {
      event := rfl
      cursor := hpos
      delivered := nofun
      buffer := nofun
      checksum := nofun
      checks := ⟨nofun, nofun, nofun, nofun⟩
      accepted := fun _ => ⟨hvalid, hheader, rfl⟩
      rejected := nofun
      exhausted := nofun
      header := .inr (header_of_validFrameAt hvalid hheader)
      crc := of_decide_eq_true }
  · exact {
      event := rfl
      cursor := rfl
      delivered := nofun
      buffer := nofun
      checksum := nofun
      checks := ⟨nofun, nofun, nofun, nofun⟩
      accepted := nofun
      rejected := fun _ => ⟨rfl, hpos ▸ h.delivered hcand⟩
      exhausted := nofun
      header := h.header
      crc := h.crc }

/-! ## Every turn -/

theorem exhaust_keeps_fsuInv {s : State} (h : FsuInv s) (hended : s.ended = true)
    (hlen : s.stream.length ≤ s.pos) :
    FsuInv (s.enterEvent .streamExhausted s.stream.length .exhausted) where
  event := rfl
  cursor := ⟨hended, hlen⟩
  delivered := nofun
  buffer := nofun
  checksum := nofun
  checks := ⟨nofun, nofun, nofun, nofun⟩
  accepted := nofun
  rejected := nofun
  exhausted _ := rfl
  header := h.header
  crc := h.crc

theorem consume_keeps_fsuInv {s : State} {x : Byte} (h : FsuInv s)
    (hx : s.stream[s.pos]? = some x) : FsuInv (s.consume x) := by
  unfold State.consume
  split
  case h_1 hst => exact seekSync1_keeps_fsuInv h hst hx
  case h_2 hst => exact seekSync2_keeps_fsuInv h hst hx
  case h_3 hst => exact readHeader_keeps_fsuInv h hst hx
  case h_4 hst => exact readPayload_keeps_fsuInv h hst hx
  all_goals exact h

theorem fsuStep_keeps_fsuInv {s t : State} (h : FsuInv s) (hstep : fsuStep s = some t) :
    FsuInv t := by
  rcases fsuStep_cases hstep with ⟨-, x, hx, rfl⟩ | ⟨-, hlen, hended, rfl⟩ | ⟨hst, rfl⟩
  · exact consume_keeps_fsuInv h hx
  · exact exhaust_keeps_fsuInv h hended hlen
  · exact validate_keeps_fsuInv h hst

theorem fsuTurn_keeps_fsuInv {s t : State} (h : FsuInv s) (hstep : fsuTurn s = .next t) :
    FsuInv t := by
  cases hstep
  cases hf : fsuStep s with
  | none => exact h
  | some t => exact fsuStep_keeps_fsuInv h hf

/-- Settles O42, by the turn that the step is. -/
theorem stepKeepsFsuInvariant : Obligations.StepKeepsFsuInvariant := by
  intro s t h hstep
  rw [step_eq_turnOf] at hstep
  have hs : FsuInv (s.setInputs s.inputs.tail) := fsuInv_of_host_writes h rfl
  cases hin : s.inputs.headD .fsu <;> rw [hin] at hstep
  case fsu => exact fsuTurn_keeps_fsuInv hs hstep
  case command cmd a b => exact commandTurn_keeps_fsuInv hs hstep
  case deliver bytes => exact deliverTurn_keeps_fsuInv hs hstep
  case endOfStream => exact endTurn_keeps_fsuInv hs hstep
  case reset rebind => cases hstep; exact fsuInv_reset _ _

end Sys2Proof.Machine
end

section
/-! What the invariant says of the cursor and of the event line (10_state.md R24, R37). -/

namespace Sys2Proof.Machine

/-- A byte of the header moves the cursor on, or a failed test moves it to some place past START
(R199 to R203). -/
theorem readHeader_pos_cases (s : State) (o : Nat) (x : Byte) :
    (s.readHeader o x).pos = s.pos ∨
    ((s.readHeader o x).start = s.start ∧ s.start + 1 ≤ (s.readHeader o x).pos) := by
  unfold State.readHeader
  rcases headerTests_cases ((s.storeByte o x).ecuUpdate x) o with
    ⟨-, -, heq⟩ | ⟨-, -, heq⟩ | ⟨-, -, heq⟩ | ⟨-, -, heq⟩ | ⟨-, -, heq⟩ <;> rw [heq]
  · exact .inl rfl
  · exact .inr ⟨rfl, Nat.le_refl _⟩
  · exact .inl rfl
  · rcases filterFailure_cases ((s.storeByte o x).ecuUpdate x) with ⟨-, hf⟩ | ⟨-, hf⟩ <;> rw [hf]
    · exact .inr ⟨rfl, Nat.le_refl _⟩
    · exact .inr ⟨rfl, by simp; omega⟩
  · exact .inl rfl

/-- A consuming step reads on, or gives up a candidate that it has read up to offset 13 at most. -/
theorem consume_pos_cases {s : State} (h : FsuInv s) (hc : s.st.isConsuming = true) (x : Byte) :
    (s.consume x).pos = s.pos + 1 ∨
    ((s.consume x).start = s.start ∧ s.start + 1 ≤ (s.consume x).pos ∧ s.pos ≤ s.start + 13) := by
  unfold State.consume
  split
  case h_1 =>
    rcases seekSync1_cases s.advance s.pos x with ⟨-, heq⟩ | ⟨-, heq⟩ <;> rw [heq] <;>
      exact .inl rfl
  case h_2 hst =>
    have hpos := h.pos_of_seekingSync2 hst
    rcases seekSync2_cases s.advance x with ⟨-, heq⟩ | ⟨-, heq⟩ <;> rw [heq]
    · exact .inl rfl
    · exact .inr ⟨rfl, Nat.le_refl _, by omega⟩
  case h_3 hst =>
    obtain ⟨-, hhigh⟩ := h.pos_of_readingHeader hst
    rcases readHeader_pos_cases s.advance (s.pos - s.start) x with hpos | ⟨hstart, hpos⟩
    · exact .inl hpos
    · exact .inr ⟨hstart, hpos, hhigh⟩
  case h_4 =>
    rcases readPayload_cases s.advance (s.pos - s.start) x with
      ⟨-, heq⟩ | ⟨-, -, heq⟩ | ⟨-, heq⟩ <;> rw [heq] <;> exact .inl rfl
  all_goals next hst => simp [hst, FsuState.isConsuming] at hc

/-- Settles O50: a candidate is given up from offset 13 at most, or rejected from offset 56. -/
theorem rewindIsBounded : Obligations.RewindIsBounded := by
  intro s t h hstep hback
  rcases fsuStep_cases hstep with ⟨hc, x, -, rfl⟩ | ⟨-, -, -, rfl⟩ | ⟨hst, rfl⟩
  · rcases consume_pos_cases h hc x with hon | ⟨hstart, hpast, hhigh⟩
    · omega
    · exact ⟨hstart, hpast, by omega⟩
  · exact absurd hback (Nat.lt_irrefl _)
  · have hpos := h.pos_of_validating hst
    rcases validate_cases s with ⟨-, heq⟩ | ⟨-, heq⟩ <;> rw [heq] at hback ⊢
    · exact absurd hback (Nat.lt_irrefl _)
    · exact ⟨rfl, Nat.le_refl _, show s.pos ≤ s.start + 1 + 55 by omega⟩

/-- Settles O54: each state's event is its `heldEvent`. -/
theorem eventLineIsHighExactlyInHold : Obligations.EventLineIsHighExactlyInHold := by
  intro s h
  unfold State.evPending
  rw [h.event]
  cases s.st <;> decide

end Sys2Proof.Machine
end

section
/-! Storage that holds nothing of the candidate under way is never observed (10_state.md R27, R34,
43_frame_sync.md R203): each operation keeps `SameButDeadStorage`. -/

namespace Sys2Proof.Machine

/-- The state with other contents in the storage that the host cannot read: FB, CKA and CKB. -/
def State.withStorage (s : State) (fb : Vector Byte 56) (a b : Byte) : State :=
  { s with fb := fb, cka := a, ckb := b }

@[simp] theorem State.withStorage_st (s : State) (fb : Vector Byte 56) (a b : Byte) :
    (s.withStorage fb a b).st = s.st := rfl
@[simp] theorem State.withStorage_ev (s : State) (fb : Vector Byte 56) (a b : Byte) :
    (s.withStorage fb a b).ev = s.ev := rfl
@[simp] theorem State.withStorage_pos (s : State) (fb : Vector Byte 56) (a b : Byte) :
    (s.withStorage fb a b).pos = s.pos := rfl
@[simp] theorem State.withStorage_stream (s : State) (fb : Vector Byte 56) (a b : Byte) :
    (s.withStorage fb a b).stream = s.stream := rfl
@[simp] theorem State.withStorage_ended (s : State) (fb : Vector Byte 56) (a b : Byte) :
    (s.withStorage fb a b).ended = s.ended := rfl

/-! ## The tests see only the bytes that are written -/

theorem classIdMatches_congr {fb fb' : Vector Byte 56}
    (h : ∀ o, o < 4 → frameByte fb o = frameByte fb' o) :
    classIdMatches fb = classIdMatches fb' := by
  rw [Bool.eq_iff_iff, classIdMatches_iff, classIdMatches_iff, h 2 (by decide), h 3 (by decide)]

theorem filterPasses_congr {p : Params} {fb fb' : Vector Byte 56}
    (h : ∀ o, o < 14 → frameByte fb o = frameByte fb' o) :
    filterPasses p fb = filterPasses p fb' := by
  rw [Bool.eq_iff_iff, filterPasses_iff, filterPasses_iff]
  exact filterAccepts_congr h

theorem declaredLength_congr {fb fb' : Vector Byte 56}
    (h : ∀ o, o < 14 → frameByte fb o = frameByte fb' o) :
    declaredLength fb = declaredLength fb' := by
  rw [declaredLength_eq, declaredLength_eq, h 4 (by decide), h 5 (by decide)]

theorem frameBuffer_ext {fb fb' : Vector Byte 56}
    (h : ∀ o, o < 56 → frameByte fb o = frameByte fb' o) : fb = fb' :=
  Vector.ext fun o ho => by
    rw [← frameByte_eq_getElem fb ho, ← frameByte_eq_getElem fb' ho, h o ho]

/-! ## Commands neither read nor write that storage -/

theorem exec_withStorage {i : Instr} {s s' : State} (fb : Vector Byte 56) (a b : Byte) :
    exec i s = .next s' → exec i (s.withStorage fb a b) = .next (s'.withStorage fb a b) := by
  cases i <;> simp only [exec]
  case extract first last =>
    unfold execExtract; split <;> intro h <;> cases h <;> rfl
  case concat lw =>
    unfold execConcat; split <;> intro h <;> cases h <;> rfl
  case sext tw cw =>
    unfold execSext; split <;> intro h <;> cases h <;> rfl
  case field p wm1 sg sc e =>
    unfold execField
    split
    · intro h; cases h; rfl
    · split <;> intro h <;> cases h <;> rfl
  case crc24q n =>
    unfold execCrc24q; split <;> intro h <;> cases h <;> rfl
  case loadw k =>
    unfold execLoadw
    rw [State.withStorage_st]
    split
    · intro h; cases h; rfl
    · split <;> intro h <;> cases h <;> rfl
  case ack =>
    unfold execAck
    rw [State.withStorage_ev]
    cases s.ev <;> intro h <;> cases h <;> rfl
  all_goals intro h; cases h; rfl

namespace SameButDeadStorage

theorem exists_withStorage {s t : State} (h : SameButDeadStorage s t) :
    ∃ fb a b, t = s.withStorage fb a b :=
  ⟨t.fb, t.cka, t.ckb, h.1⟩

theorem refl (s : State) : SameButDeadStorage s s :=
  ⟨rfl, fun _ _ _ => rfl, fun _ => ⟨rfl, rfl⟩⟩

/-- Outside a candidate all of the storage is dead. -/
theorem of_not_inCandidate {s : State} (hst : s.st.inCandidate = false) (fb : Vector Byte 56)
    (a b : Byte) : SameButDeadStorage s (s.withStorage fb a b) := by
  refine ⟨rfl, fun hc => ?_, fun hl => ?_⟩
  · rw [hst] at hc; cases hc
  · rw [FsuState.inCandidate_of_checksumLive hl] at hst; cases hst

/-- Dead storage is on no register that the host can read (R34). -/
theorem readPort_eq {s t : State} (h : SameButDeadStorage s t) (r : HostReg) :
    readPort s r = readPort t r := by
  obtain ⟨fb, a, b, rfl⟩ := h.exists_withStorage
  cases r <;> rfl

/-! ## The operations of the FSU -/

/-- A change of ST brings nothing dead to life but accumulators that are equal. -/
theorem goto {s t : State} (h : SameButDeadStorage s t) {st : FsuState}
    (hc : s.st.inCandidate = true)
    (hl : st.checksumLive = true → s.cka = t.cka ∧ s.ckb = t.ckb) :
    SameButDeadStorage (s.goto st) (t.goto st) := by
  obtain ⟨heq, hbuffer, -⟩ := h
  exact ⟨by rw [heq]; rfl, fun _ => hbuffer hc, hl⟩

theorem rewind {s t : State} (h : SameButDeadStorage s t) :
    SameButDeadStorage s.rewind t.rewind := by
  obtain ⟨fb, a, b, rfl⟩ := h.exists_withStorage
  exact of_not_inCandidate rfl fb a b

theorem skipDeclared {s t : State} (h : SameButDeadStorage s t) (len : Nat) :
    SameButDeadStorage (s.skipDeclared len) (t.skipDeclared len) := by
  obtain ⟨fb, a, b, rfl⟩ := h.exists_withStorage
  exact of_not_inCandidate rfl fb a b

theorem ecuClear {s t : State} (h : SameButDeadStorage s t) :
    SameButDeadStorage s.ecuClear t.ecuClear := by
  obtain ⟨heq, hbuffer, -⟩ := h
  exact ⟨by rw [heq]; rfl, hbuffer, fun _ => ⟨rfl, rfl⟩⟩

theorem ecuUpdate {s t : State} (h : SameButDeadStorage s t) (x : Byte) :
    SameButDeadStorage (s.ecuUpdate x) (t.ecuUpdate x) := by
  obtain ⟨heq, hbuffer, hlive⟩ := h
  refine ⟨by rw [heq]; rfl, hbuffer, fun hl => ?_⟩
  obtain ⟨ha, hb⟩ := hlive hl
  simp [ha, hb]

/-- The byte read at the cursor is written to both buffers, at the first offset not yet written. -/
theorem advance_storeByte {s t : State} (h : SameButDeadStorage s t) {o : Nat}
    (ho : s.start + o = s.pos) (h56 : o < 56) (x : Byte) :
    SameButDeadStorage (s.advance.storeByte o x) (t.advance.storeByte o x) := by
  obtain ⟨heq, hbuffer, hlive⟩ := h
  refine ⟨by rw [heq]; rfl, fun hc j (hj : j < s.pos + 1 - s.start) => ?_, hlive⟩
  simp only [State.storeByte_fb, State.advance_fb, frameByte_setIfInBounds _ _ _ _ h56]
  split
  · rfl
  · exact hbuffer hc j (by omega)

theorem seekSync1 {s t : State} (h : SameButDeadStorage s t) (hst : s.st = .seekingSync1)
    (x : Byte) :
    SameButDeadStorage (s.advance.seekSync1 s.pos x) (t.advance.seekSync1 s.pos x) := by
  obtain ⟨fb, a, b, rfl⟩ := h.exists_withStorage
  unfold State.seekSync1
  split
  · refine ⟨rfl, fun _ j (hj : j < s.pos + 1 - s.pos) => ?_, nofun⟩
    obtain rfl : j = 0 := by omega
    exact (frameByte_setIfInBounds_self _ _ _ (by decide)).trans
      (frameByte_setIfInBounds_self _ _ _ (by decide)).symm
  · exact of_not_inCandidate (by simp [hst, FsuState.inCandidate]) fb a b

theorem seekSync2 {s t : State} (h : SameButDeadStorage s t) (hst : s.st = .seekingSync2)
    (hpos : s.start + 1 = s.pos) (x : Byte) :
    SameButDeadStorage (s.advance.seekSync2 x) (t.advance.seekSync2 x) := by
  have hcand : s.st.inCandidate = true := by rw [hst]; rfl
  unfold State.seekSync2
  split
  · exact ((h.advance_storeByte hpos (by decide) x).ecuClear).goto hcand fun _ => ⟨rfl, rfl⟩
  · obtain ⟨fb, a, b, rfl⟩ := h.exists_withStorage
    exact of_not_inCandidate rfl fb a b

theorem filterFailure {s t : State} (h : SameButDeadStorage s t)
    (hbytes : ∀ o, o < 14 → frameByte s.fb o = frameByte t.fb o) :
    SameButDeadStorage s.filterFailure t.filterFailure := by
  have hparams : t.params = s.params := by rw [h.1]
  unfold State.filterFailure
  rw [hparams, declaredLength_congr hbytes]
  cases s.params.filterPolicy
  · exact h.rewind
  · exact h.skipDeclared _

/-- The tests after the byte at offset o, which the cursor has passed, see only written bytes. -/
theorem headerTests {s t : State} (h : SameButDeadStorage s t) {o : Nat}
    (hc : s.st.checksumLive = true) (ho : s.pos - s.start = o + 1) :
    SameButDeadStorage (s.headerTests o) (t.headerTests o) := by
  have hcand := FsuState.inCandidate_of_checksumLive hc
  have hparams : t.params = s.params := by rw [h.1]
  obtain ⟨-, hbuffer, hlive⟩ := id h
  rw [ho] at hbuffer
  unfold State.headerTests
  split
  · next h3 =>
    rw [classIdMatches_congr fun j hj => hbuffer hcand j (by omega)]
    split
    · exact h
    · exact h.rewind
  split
  · next h13 =>
    have hbytes (j : Nat) (hj : j < 14) := hbuffer hcand j (by omega)
    rw [hparams, filterPasses_congr hbytes]
    split
    · exact h.goto hcand fun _ => hlive hc
    · exact h.filterFailure hbytes
  · exact h

theorem readHeader {s t : State} (h : SameButDeadStorage s t) {o : Nat}
    (hc : s.st.checksumLive = true) (ho : s.start + o = s.pos) (h56 : o < 56) (x : Byte) :
    SameButDeadStorage (s.advance.readHeader o x) (t.advance.readHeader o x) :=
  ((h.advance_storeByte ho h56 x).ecuUpdate x).headerTests hc (by simp; omega)

theorem readPayload {s t : State} (h : SameButDeadStorage s t) {o : Nat}
    (hc : s.st.checksumLive = true) (ho : s.start + o = s.pos) (h56 : o < 56) (x : Byte) :
    SameButDeadStorage (s.advance.readPayload o x) (t.advance.readPayload o x) := by
  have hstored := h.advance_storeByte ho h56 x
  obtain ⟨-, -, hlive⟩ := id h
  unfold State.readPayload
  by_cases h55 : o = 55
  · subst h55
    exact hstored.goto (FsuState.inCandidate_of_checksumLive hc) fun _ => hlive hc
  · simp only [h55, if_false]
    split
    · exact hstored.ecuUpdate x
    · exact hstored

/-- With the whole candidate read, no storage is dead: VALIDATING sees one and the same state. -/
theorem eq_of_validating {s t : State} (h : SameButDeadStorage s t) (hinv : FsuInv s)
    (hst : s.st = .validating) : t = s := by
  obtain ⟨heq, hbuffer, hlive⟩ := h
  have hpos := hinv.pos_of_validating hst
  obtain ⟨ha, hb⟩ := hlive (by rw [hst]; rfl)
  have hfb : s.fb = t.fb := frameBuffer_ext fun o ho => hbuffer (by rw [hst]; rfl) o (by omega)
  rw [heq, ← hfb, ← ha, ← hb]

theorem consume {s t : State} (h : SameButDeadStorage s t) (hinv : FsuInv s) (x : Byte) :
    SameButDeadStorage (s.consume x) (t.consume x) := by
  obtain ⟨fb, a, b, rfl⟩ := h.exists_withStorage
  unfold State.consume
  rw [State.withStorage_st]
  cases hst : s.st
  case seekingSync1 => exact h.seekSync1 hst x
  case seekingSync2 => exact h.seekSync2 hst (hinv.pos_of_seekingSync2 hst).symm x
  case readingHeader =>
    have hpos := hinv.pos_of_readingHeader hst
    exact h.readHeader (by rw [hst]; rfl) (Nat.add_sub_cancel' (by omega)) (by omega) x
  case readingPayload =>
    have hpos := hinv.pos_of_readingPayload hst
    exact h.readPayload (by rw [hst]; rfl) (Nat.add_sub_cancel' (by omega)) (by omega) x
  all_goals exact h

theorem consumingStep {s t : State} (h : SameButDeadStorage s t) (hinv : FsuInv s) :
    Option.Rel SameButDeadStorage s.consumingStep t.consumingStep := by
  obtain ⟨fb, a, b, rfl⟩ := h.exists_withStorage
  simp only [State.consumingStep, State.withStorage_stream, State.withStorage_pos,
    State.withStorage_ended]
  cases s.stream[s.pos]? with
  | some x => exact .some (h.consume hinv x)
  | none =>
    by_cases hended : s.ended = true
    · simp only [hended, if_true]
      exact .some (of_not_inCandidate (s := s.enterEvent _ _ .exhausted) rfl fb a b)
    · simp only [hended]
      exact .none

theorem fsuStep_rel {s t : State} (h : SameButDeadStorage s t) (hinv : FsuInv s) :
    Option.Rel SameButDeadStorage (fsuStep s) (fsuStep t) := by
  have hstt : t.st = s.st := by rw [h.1]
  cases hst : s.st
  case validating =>
    rw [h.eq_of_validating hinv hst]
    simp only [fsuStep, hst]
    exact .some (refl _)
  all_goals simp only [fsuStep, hstt, hst]
  case accept | reject | exhausted => exact .none
  all_goals exact h.consumingStep hinv

/-! ## Every turn -/

theorem setInputs {s t : State} (h : SameButDeadStorage s t) (rest : List Input) :
    SameButDeadStorage (s.setInputs rest) (t.setInputs rest) := by
  obtain ⟨heq, hbuffer, hlive⟩ := h
  exact ⟨by rw [heq]; rfl, hbuffer, hlive⟩

theorem presentOperands {s t : State} (h : SameButDeadStorage s t) (a b : Wide) :
    SameButDeadStorage (s.presentOperands a b) (t.presentOperands a b) := by
  obtain ⟨heq, hbuffer, hlive⟩ := h
  exact ⟨by rw [heq]; rfl, hbuffer, hlive⟩

theorem raiseCmdError {s t : State} (h : SameButDeadStorage s t) (code : CmdError) :
    SameButDeadStorage (s.raiseCmdError code) (t.raiseCmdError code) := by
  obtain ⟨heq, hbuffer, hlive⟩ := h
  exact ⟨by rw [heq]; rfl, hbuffer, hlive⟩

theorem exec_next {i : Instr} {s t s' : State} (h : SameButDeadStorage s t)
    (hstep : exec i s = .next s') :
    ∃ t', exec i t = .next t' ∧ SameButDeadStorage s' t' := by
  obtain ⟨fb, a, b, rfl⟩ := h.exists_withStorage
  refine ⟨_, exec_withStorage fb a b hstep, ?_⟩
  obtain ⟨hframe, -, -⟩ := commandsWriteOnlyTheirRegisters i s s' hstep
  rcases exec_st_ev_cases hstep with ⟨hst, -⟩ | ⟨-, hst, -⟩
  · obtain ⟨-, hbuffer, hlive⟩ := h
    rw [hframe, hst]
    exact ⟨rfl, hbuffer, hlive⟩
  · exact of_not_inCandidate (by rw [hst]; rfl) fb a b

theorem commandTurn_next {cmd : Word} {a b : Wide} {s t s' : State} (h : SameButDeadStorage s t)
    (hstep : commandTurn cmd a b s = .next s') :
    ∃ t', commandTurn cmd a b t = .next t' ∧ SameButDeadStorage s' t' := by
  unfold commandTurn at hstep ⊢
  split at hstep
  · exact (h.presentOperands a b).exec_next hstep
  · cases hstep
    exact ⟨_, rfl, (h.presentOperands a b).raiseCmdError _⟩

theorem fsuTurn_next {s t s' : State} (h : SameButDeadStorage s t) (hinv : FsuInv s)
    (hstep : fsuTurn s = .next s') :
    ∃ t', fsuTurn t = .next t' ∧ SameButDeadStorage s' t' := by
  cases hstep
  refine ⟨_, rfl, ?_⟩
  have hrel := h.fsuStep_rel hinv
  generalize fsuStep s = next, fsuStep t = next' at hrel
  cases hrel with
  | some hnext => exact hnext
  | none => exact h

/-- More of the stream leaves the storage and what of it is live as they were. -/
theorem deliverTurn_next {bytes : List Byte} {s t s' : State} (h : SameButDeadStorage s t)
    (hstep : deliverTurn bytes s = .next s') :
    ∃ t', deliverTurn bytes t = .next t' ∧ SameButDeadStorage s' t' := by
  obtain ⟨fb, a, b, rfl⟩ := h.exists_withStorage
  obtain ⟨-, hbuffer, hlive⟩ := id h
  simp only [deliverTurn, State.withStorage_ended] at hstep ⊢
  by_cases hended : s.ended = true
  · simp only [hended, if_true] at hstep ⊢
    cases hstep
    exact ⟨_, rfl, h⟩
  · simp only [hended] at hstep ⊢
    cases hstep
    exact ⟨_, rfl, rfl, hbuffer, hlive⟩

theorem endTurn_next {s t s' : State} (h : SameButDeadStorage s t) (hstep : endTurn s = .next s') :
    ∃ t', endTurn t = .next t' ∧ SameButDeadStorage s' t' := by
  cases hstep
  obtain ⟨heq, hbuffer, hlive⟩ := h
  exact ⟨_, rfl, by rw [heq], hbuffer, hlive⟩

/-- Reset clears the storage, dead or live (70_reset_and_hazards.md R291). -/
theorem resetTurn_next {rebind : Option Params} {s t s' : State} (h : SameButDeadStorage s t)
    (hstep : resetTurn rebind s = .next s') :
    ∃ t', resetTurn rebind t = .next t' ∧ SameButDeadStorage s' t' := by
  cases hstep
  obtain ⟨fb, a, b, rfl⟩ := h.exists_withStorage
  exact ⟨_, rfl, refl _⟩

theorem turnOf_next {i : Input} {s t s' : State} (h : SameButDeadStorage s t) (hinv : FsuInv s)
    (hstep : turnOf i s = .next s') :
    ∃ t', turnOf i t = .next t' ∧ SameButDeadStorage s' t' := by
  cases i with
  | fsu => exact h.fsuTurn_next hinv hstep
  | command cmd a b => exact h.commandTurn_next hstep
  | deliver bytes => exact h.deliverTurn_next hstep
  | endOfStream => exact h.endTurn_next hstep
  | reset rebind => exact h.resetTurn_next hstep

end SameButDeadStorage

/-- Settles O51: both states take the same turn, each turn keeps the relation, and the read port does
not see through it. -/
theorem deadStorageIsUnobservable : Obligations.DeadStorageIsUnobservable := by
  intro s t s' hinv h hstep
  have hinputs : t.inputs = s.inputs := by rw [h.1]
  rw [step_eq_turnOf] at hstep
  have hinv' : FsuInv (s.setInputs s.inputs.tail) := fsuInv_of_host_writes hinv rfl
  obtain ⟨t', ht', hdead⟩ := (h.setInputs s.inputs.tail).turnOf_next hinv' hstep
  refine ⟨t', ?_, hdead, hdead.readPort_eq⟩
  rw [step_eq_turnOf, hinputs, ht']

end Sys2Proof.Machine
end

section
/-! The algebra of a command word's fields (30_encoding.md R89): what a slice of the word reads where
a field was placed, and how a word is put together again from its slices. -/

namespace Sys2Proof

theorem getLsbD_place {n : Nat} (v : BitVec n) (lo i : Nat) :
    (place v lo).getLsbD i = (decide (i < 32) && decide (lo ≤ i) && v.getLsbD (i - lo)) := by
  by_cases hi : i < 32
  · have hsub : i - lo < 32 := by omega
    by_cases hlo : lo ≤ i <;> simp [place, hi, hlo]
  · rw [BitVec.getLsbD_of_ge _ _ (Nat.le_of_not_lt hi)]
    simp [hi]

@[simp] theorem getElem_place {n : Nat} (v : BitVec n) (lo i : Nat) (hi : i < 32) :
    (place v lo)[i] = (decide (lo ≤ i) && v.getLsbD (i - lo)) := by
  rw [← BitVec.getLsbD_eq_getElem, getLsbD_place]
  simp [hi]

/-! ## Reading a slice of placed fields -/

@[simp] theorem extractLsb'_place_self {n lo : Nat} (v : BitVec n) (h : lo + n ≤ 32) :
    (place v lo).extractLsb' lo n = v := by
  apply BitVec.eq_of_getLsbD_eq
  intro i hi
  have hlt : lo + i < 32 := by omega
  rw [BitVec.getLsbD_extractLsb', getLsbD_place]
  simp [hlt, hi]

@[simp] theorem extractLsb'_place_of_above {n lo start len : Nat} (v : BitVec n)
    (h : lo + n ≤ start) : (place v lo).extractLsb' start len = 0 := by
  apply BitVec.eq_of_getLsbD_eq
  intro i hi
  have hpast : n ≤ start + i - lo := by omega
  simp [getLsbD_place, hpast]

@[simp] theorem extractLsb'_place_of_below {n lo start len : Nat} (v : BitVec n)
    (h : start + len ≤ lo) : (place v lo).extractLsb' start len = 0 := by
  apply BitVec.eq_of_getLsbD_eq
  intro i hi
  have hbefore : ¬ lo ≤ start + i := by omega
  simp [getLsbD_place, hbefore]

/-! ## Putting a word together from its slices -/

/-- The bits of a word from position `lo` up, in their places. -/
def bitsFrom (w : Word) (lo : Nat) : Word := w >>> lo <<< lo

theorem getLsbD_bitsFrom (w : Word) (lo i : Nat) :
    (bitsFrom w lo).getLsbD i = (decide (lo ≤ i) && w.getLsbD i) := by
  by_cases hi : i < 32
  · by_cases hlo : lo ≤ i <;> simp [bitsFrom, hi, hlo]
  · simp [Nat.le_of_not_lt hi]

theorem getLsbD_place_extractLsb' (w : Word) (lo n i : Nat) :
    (place (w.extractLsb' lo n) lo).getLsbD i =
      (decide (lo ≤ i ∧ i < lo + n) && w.getLsbD i) := by
  rw [getLsbD_place, BitVec.getLsbD_extractLsb']
  by_cases hlo : lo ≤ i
  · have hn : i - lo < n ↔ i < lo + n := by omega
    by_cases hi : i < 32
    · simp [hi, hlo, hn]
    · simp [Nat.le_of_not_lt hi]
  · simp [hlo]

/-- A slice that ends at bit 31 is all of the word from its start. -/
theorem place_of_top_slice {w : Word} {lo n : Nat} {v : BitVec n} (h : w.extractLsb' lo n = v)
    (htop : lo + n = 32 := by rfl) : place v lo = bitsFrom w lo := by
  subst h
  apply BitVec.eq_of_getLsbD_eq
  intro i hi
  rw [getLsbD_place_extractLsb', getLsbD_bitsFrom, htop]
  simp [hi]

/-- The next slice below extends what has been put together. -/
@[simp] theorem bitsFrom_or_place (w : Word) {top lo n : Nat} (h : lo + n = top) :
    bitsFrom w top ||| place (w.extractLsb' lo n) lo = bitsFrom w lo := by
  apply BitVec.eq_of_getLsbD_eq
  intro i hi
  have hsplit : lo ≤ i ↔ top ≤ i ∨ (lo ≤ i ∧ i < top) := by omega
  simp only [BitVec.getLsbD_or, getLsbD_bitsFrom, getLsbD_place_extractLsb', h]
  rw [← Bool.and_or_distrib_right, ← Bool.decide_or, decide_eq_decide.mpr hsplit]

@[simp] theorem bitsFrom_or_bit (w : Word) {top lo : Nat} (hlo : lo < 32) (h : lo + 1 = top) :
    bitsFrom w top ||| place (BitVec.ofBool w[lo]) lo = bitsFrom w lo := by
  have hbit : BitVec.ofBool w[lo] = w.extractLsb' lo 1 := by
    ext i hi
    obtain rfl : i = 0 := by omega
    simp [hlo]
  rw [hbit, bitsFrom_or_place w h]

@[simp] theorem bitsFrom_zero (w : Word) : bitsFrom w 0 = w := by simp [bitsFrom]

theorem bitsFrom_of_low_zero {w : Word} {lo : Nat} (h : w.extractLsb' 0 lo = 0) :
    bitsFrom w lo = w := by
  calc bitsFrom w lo = bitsFrom w lo ||| place (w.extractLsb' 0 lo) 0 := by simp [h, place]
    _ = w := by rw [bitsFrom_or_place w (Nat.zero_add lo), bitsFrom_zero]

end Sys2Proof
end

section
/-! One equation of the decoder for each row of the opcode table (30_encoding.md R91 to R101), and
with them: decoding and encoding undo each other (R105). -/

namespace Sys2Proof

/-! ## The decoder, row by row -/

@[simp] theorem unlessReserved_zero (n : Nat) (i : Instr) :
    unlessReserved (0#n) i = .ok i := rfl

/-- The ten assigned operation codes, and the two patterns of the reserved ones (R90, R101). -/
theorem opcode_cases (w : Word) :
    w.extractLsb' 28 4 = 0x0#4 ∨ w.extractLsb' 28 4 = 0x1#4 ∨ w.extractLsb' 28 4 = 0x2#4 ∨
    w.extractLsb' 28 4 = 0x3#4 ∨ w.extractLsb' 28 4 = 0x4#4 ∨ w.extractLsb' 28 4 = 0x5#4 ∨
    w.extractLsb' 28 4 = 0x6#4 ∨ w.extractLsb' 28 4 = 0x7#4 ∨ w.extractLsb' 28 4 = 0x8#4 ∨
    w.extractLsb' 28 4 = 0x9#4 ∨ w.extractLsb' 29 3 = 0b101#3 ∨ w.extractLsb' 30 2 = 0b11#2 := by
  simp only [← BitVec.toNat_inj, BitVec.extractLsb'_toNat, BitVec.toNat_ofNat,
    Nat.shiftRight_eq_div_pow]
  omega

section
variable {w : Word}

theorem decode_nop (op : w.extractLsb' 28 4 = 0x0#4) :
    decode w = unlessReserved (w.extractLsb' 0 28) .nop := by
  rw [decode, op]; rfl

theorem decode_extract (op : w.extractLsb' 28 4 = 0x1#4) :
    decode w = unlessReserved (w.extractLsb' 0 18)
      (.extract (w.extractLsb' 23 5) (w.extractLsb' 18 5)) := by
  rw [decode, op]; rfl

theorem decode_concat (op : w.extractLsb' 28 4 = 0x2#4) :
    decode w = unlessReserved (w.extractLsb' 0 21) (.concat (w.extractLsb' 21 7)) := by
  rw [decode, op]; rfl

theorem decode_sext (op : w.extractLsb' 28 4 = 0x3#4) :
    decode w = unlessReserved (w.extractLsb' 0 20)
      (.sext (w.extractLsb' 21 7) (containerOfBit (w.getLsbD 20))) := by
  rw [decode, op]; rfl

theorem decode_scale (op : w.extractLsb' 28 4 = 0x4#4) :
    decode w = unlessReserved (w.extractLsb' 0 19)
      (.scale (w.extractLsb' 20 8) (w.getLsbD 19)) := by
  rw [decode, op]; rfl

theorem decode_field (op : w.extractLsb' 28 4 = 0x5#4) :
    decode w = unlessReserved (w.extractLsb' 0 3)
      (.field (w.extractLsb' 19 9) (w.extractLsb' 13 6) (w.getLsbD 12) (w.getLsbD 11)
        (w.extractLsb' 3 8)) := by
  rw [decode, op]; rfl

theorem decode_crc24q (op : w.extractLsb' 28 4 = 0x6#4) :
    decode w = unlessReserved (w.extractLsb' 0 19) (.crc24q (w.extractLsb' 19 9)) := by
  rw [decode, op]; rfl

theorem decode_crcchk (op : w.extractLsb' 28 4 = 0x7#4) :
    decode w = unlessReserved (w.extractLsb' 0 28) .crcchk := by
  rw [decode, op]; rfl

theorem decode_loadw (op : w.extractLsb' 28 4 = 0x8#4) :
    decode w = unlessReserved (w.extractLsb' 0 24) (.loadw (w.extractLsb' 24 4)) := by
  rw [decode, op]; rfl

theorem decode_ack (op : w.extractLsb' 28 4 = 0x9#4) :
    decode w = unlessReserved (w.extractLsb' 0 28) .ack := by
  rw [decode, op]; rfl

theorem decode_reservedAB (op : w.extractLsb' 29 3 = 0b101#3) :
    decode w = .ok (.reservedAB (w.extractLsb' 0 29)) := by
  have hcode : (w.extractLsb' 28 4).toNat = 0xA ∨ (w.extractLsb' 28 4).toNat = 0xB := by
    simp only [← BitVec.toNat_inj, BitVec.extractLsb'_toNat, BitVec.toNat_ofNat,
      Nat.shiftRight_eq_div_pow] at op ⊢
    omega
  rcases hcode with h | h <;> simp only [decode, h]

theorem decode_reservedCF (op : w.extractLsb' 30 2 = 0b11#2) :
    decode w = .ok (.reservedCF (w.extractLsb' 0 30)) := by
  have hcode : (w.extractLsb' 28 4).toNat = 0xC ∨ (w.extractLsb' 28 4).toNat = 0xD ∨
      (w.extractLsb' 28 4).toNat = 0xE ∨ (w.extractLsb' 28 4).toNat = 0xF := by
    simp only [← BitVec.toNat_inj, BitVec.extractLsb'_toNat, BitVec.toNat_ofNat,
      Nat.shiftRight_eq_div_pow] at op ⊢
    omega
  rcases hcode with h | h | h | h <;> simp only [decode, h]

end

/-! ## Decoding after encoding -/

@[simp] theorem containerOfBit_bitOfContainer (c : Container) :
    containerOfBit (bitOfContainer c) = c := by cases c <;> rfl

@[simp] theorem bitOfContainer_containerOfBit (b : Bool) :
    bitOfContainer (containerOfBit b) = b := by cases b <;> rfl

/-- Settles O1: the word's operation code selects the command's own row of the decoder, whose slices
read the fields back and find the reserved bits 0. -/
theorem decodeInvertsEncode : Obligations.DecodeInvertsEncode := by
  intro i
  cases i with
  | nop => simp [encode, decode_nop]
  | extract first last => simp [encode, decode_extract, BitVec.extractLsb'_or]
  | concat lw => simp [encode, decode_concat, BitVec.extractLsb'_or]
  | sext tw cw => simp [encode, decode_sext, BitVec.extractLsb'_or]
  | scale e sg => simp [encode, decode_scale, BitVec.extractLsb'_or]
  | field p wm1 sg sc e => simp [encode, decode_field, BitVec.extractLsb'_or]
  | crc24q n => simp [encode, decode_crc24q, BitVec.extractLsb'_or]
  | crcchk => simp [encode, decode_crcchk]
  | loadw k => simp [encode, decode_loadw, BitVec.extractLsb'_or]
  | ack => simp [encode, decode_ack]
  | reservedAB low => simp [encode, decode_reservedAB, BitVec.extractLsb'_or]
  | reservedCF low => simp [encode, decode_reservedCF, BitVec.extractLsb'_or]

/-! ## Encoding after decoding -/

/-- In a row with reserved bits, an accepted word is its fields put together. -/
theorem encode_of_accepted {w : Word} {lo : Nat} {i j : Instr}
    (hrow : decode w = unlessReserved (w.extractLsb' 0 lo) i) (hfields : encode i = bitsFrom w lo)
    (h : decode w = .ok j) : encode j = w := by
  rcases Machine.unlessReserved_cases (w.extractLsb' 0 lo) i with ⟨hzero, hok⟩ | ⟨-, herr⟩
  · cases (hrow.trans hok).symm.trans h
    rw [hfields, bitsFrom_of_low_zero hzero]
  · cases (hrow.trans herr).symm.trans h

/-- Settles O2: the operation code selects the row, and the row's fields with the reserved bits 0 are
the whole word. -/
theorem acceptedWordIsItsEncoding : Obligations.AcceptedWordIsItsEncoding := by
  intro w i h
  rcases opcode_cases w with op | op | op | op | op | op | op | op | op | op | op | op
  · exact encode_of_accepted (decode_nop op) (by simp [encode, place_of_top_slice op]) h
  · exact encode_of_accepted (decode_extract op) (by simp [encode, place_of_top_slice op]) h
  · exact encode_of_accepted (decode_concat op) (by simp [encode, place_of_top_slice op]) h
  · exact encode_of_accepted (decode_sext op) (by simp [encode, place_of_top_slice op]) h
  · exact encode_of_accepted (decode_scale op) (by simp [encode, place_of_top_slice op]) h
  · exact encode_of_accepted (decode_field op) (by simp [encode, place_of_top_slice op]) h
  · exact encode_of_accepted (decode_crc24q op) (by simp [encode, place_of_top_slice op]) h
  · exact encode_of_accepted (decode_crcchk op) (by simp [encode, place_of_top_slice op]) h
  · exact encode_of_accepted (decode_loadw op) (by simp [encode, place_of_top_slice op]) h
  · exact encode_of_accepted (decode_ack op) (by simp [encode, place_of_top_slice op]) h
  · cases (decode_reservedAB op).symm.trans h
    simp [encode, place_of_top_slice op]
  · cases (decode_reservedCF op).symm.trans h
    simp [encode, place_of_top_slice op]

end Sys2Proof
end

section
/-! The exponent fields of SCALE and FIELD (30_encoding.md R102). -/

namespace Sys2Proof.Machine

/-- An exponent field is the signed integer of its eight bits (R102). -/
theorem exponentOf_eq_toInt (e : BitVec 8) : exponentOf e = e.toInt := by
  have hlow : zextN 8 e.toNat = e.toNat := Nat.mod_eq_of_lt e.isLt
  rw [exponentOf, sextN, hlow, BitVec.toInt_eq_toNat_cond]
  split <;> split <;> omega

/-- Settles O30: the bounds of an 8-bit two's-complement number, and the six fields by evaluation. -/
theorem exponentFieldIsTwosComplement : Obligations.ExponentFieldIsTwosComplement := by
  refine ⟨fun e => ?_, by decide⟩
  rw [exponentOf_eq_toInt]
  refine ⟨BitVec.le_toInt e, Int.le_of_lt_add_one BitVec.toInt_lt, ?_⟩
  rw [BitVec.toInt_eq_toNat_cond]
  split
  · exact .inl rfl
  · exact .inr rfl

end Sys2Proof.Machine
end

section
/-! Legal commands and their success (30_encoding.md R101, 60_exceptions.md R263). -/

namespace Sys2Proof.Machine

/-- The command answers a next state, and its error code is OK exactly when `legal` is true. -/
def SucceedsIff (legal : Bool) (o : Host.Outcome State Fault Refusal) : Prop :=
  ∃ t, o = .next t ∧ (t.cerr = .ok ↔ legal = true)

theorem succeedsIff_true {t : State} (h : t.cerr = .ok) : SucceedsIff true (.next t) :=
  ⟨t, rfl, by simp [h]⟩

theorem succeedsIff_false {s : State} {code : CmdError} (h : code ≠ .ok) :
    SucceedsIff false (.next (s.raiseCmdError code)) :=
  ⟨_, rfl, by simp [h]⟩

/-- A check of the fields that fails on illegal fields only, before the rest of the command. -/
theorem succeedsIff_of_check {bad : Prop} [Decidable bad] {legal : Bool} {s : State}
    {code : CmdError} {o : Host.Outcome State Fault Refusal} (hcode : code ≠ .ok)
    (hbad : bad → legal = false) (hrest : ¬ bad → SucceedsIff legal o) :
    SucceedsIff legal (if bad then .next (s.raiseCmdError code) else o) := by
  split
  · next h => rw [hbad h]; exact succeedsIff_false hcode
  · next h => exact hrest h

/-- The range check, before a result that is then always given. -/
theorem succeedsIff_of_rangeCheck {bad : Prop} [Decidable bad] {legal : Bool} {s : State} {v : Wide}
    (h : legal = true ↔ ¬ bad) :
    SucceedsIff legal (if bad then .next (s.raiseCmdError .range) else .next (s.succeedWith v)) :=
  succeedsIff_of_check (by decide) (fun hbad => Bool.eq_false_iff.mpr fun hl => h.mp hl hbad)
    fun hgood => by rw [h.mpr hgood]; exact succeedsIff_true rfl

theorem wellFormed_field_iff (p : BitVec 9) (wm1 : BitVec 6) (sg sc : Bool) (e : BitVec 8) :
    (Instr.field p wm1 sg sc e).wellFormed = true ↔
      p.toNat + fieldWidth wm1 ≤ 320 ∧ ¬ (sc = false ∧ e ≠ 0) := by
  cases sc <;> simp [Instr.wellFormed, fieldWidth]

theorem execField_succeedsIff (p : BitVec 9) (wm1 : BitVec 6) (sg sc : Bool) (e : BitVec 8)
    (s : State) :
    SucceedsIff (Instr.field p wm1 sg sc e).wellFormed (execField p wm1 sg sc e s) := by
  have hlegal := wellFormed_field_iff p wm1 sg sc e
  refine succeedsIff_of_check (by decide) (fun hexp => ?_) fun hexp =>
    succeedsIff_of_rangeCheck ?_
  · exact Bool.eq_false_iff.mpr fun hl => (hlegal.mp hl).2 hexp
  · rw [hlegal, Nat.not_lt, and_iff_left hexp]

theorem execLoadw_succeedsIff (k : BitVec 4) {s : State} (hold : s.st.isHold = true) :
    SucceedsIff (decide (k.toNat ≤ 9)) (execLoadw k s) := by
  rcases execLoadw_cases k s with ⟨hst, -⟩ | ⟨-, hk, heq⟩ | ⟨-, hk, heq⟩
  · simp [hst] at hold
  · rw [heq, decide_eq_false (by omega)]
    exact succeedsIff_false (by decide)
  · rw [heq, decide_eq_true hk]
    exact succeedsIff_true rfl

theorem execAck_succeeds {s : State} (hev : s.ev ≠ .none) : SucceedsIff true (execAck s) := by
  rcases execAck_cases s with ⟨hnone, -⟩ | ⟨-, heq⟩ | ⟨-, heq⟩
  · exact absurd hnone hev
  all_goals rw [heq]; exact succeedsIff_true rfl

/-- Settles O24: each command's own checks are those of its well-formedness, and in a hold state with
an event LOADW and ACK make no other. -/
theorem legalCommandsSucceedInHold : Obligations.LegalCommandsSucceedInHold := by
  intro i s hold hev
  change SucceedsIff i.wellFormed (exec i s)
  cases i with
  | nop => exact succeedsIff_true rfl
  | extract first last => exact succeedsIff_of_rangeCheck (by simp [Instr.wellFormed])
  | concat lw => exact succeedsIff_of_rangeCheck (by simp [Instr.wellFormed])
  | sext tw cw =>
    refine succeedsIff_of_rangeCheck ?_
    simp only [Instr.wellFormed, Bool.and_eq_true, decide_eq_true_eq]
    omega
  | scale e sg => exact succeedsIff_true rfl
  | field p wm1 sg sc e => exact execField_succeedsIff p wm1 sg sc e s
  | crc24q n => exact succeedsIff_of_rangeCheck (by simp [Instr.wellFormed])
  | crcchk => exact succeedsIff_true rfl
  | loadw k => exact execLoadw_succeedsIff k hold
  | ack => exact execAck_succeeds hev
  | reservedAB low => exact succeedsIff_false (by decide)
  | reservedCF low => exact succeedsIff_false (by decide)

end Sys2Proof.Machine
end

section
/-! The invariant along a run. -/

namespace Sys2Proof.Machine

theorem fsuInv_of_reachable {s : State} (h : Reachable s) : FsuInv s := by
  induction h with
  | reset p inputs => exact fsuInv_reset p inputs
  | step _ hstep ih => exact stepKeepsFsuInvariant _ _ ih hstep

theorem FsuInv.pos_of_accept {s : State} (h : FsuInv s) (hst : s.st = .accept) :
    s.pos = s.start + 56 := by
  have hcur := h.cursor
  simpa [CursorInPlace, hst] using hcur

/-- Settles O44: the invariant holds of every reachable state, and says this of ACCEPT. -/
theorem acceptedFramesAreValid : Obligations.AcceptedFramesAreValid := by
  intro s hreach hst
  have h := fsuInv_of_reachable hreach
  obtain ⟨hvalid, hheader, hevPos⟩ := h.accepted hst
  exact ⟨hvalid, hheader, hevPos, h.pos_of_accept hst⟩

end Sys2Proof.Machine
end

section
/-! What a command word decides before its command runs: the error of a reserved bit that is 1
(30_encoding.md R101), and the command whose fields the word is the sum of (R91 to R95). -/

namespace Sys2Proof

theorem toNat_slice {n : Nat} (b : BitVec n) (start len : Nat) :
    (b.extractLsb' start len).toNat = b.toNat / 2 ^ start % 2 ^ len := by
  rw [BitVec.extractLsb'_toNat, Nat.shiftRight_eq_div_pow]

theorem opcode_of_div {w : Word} {op : Nat} (h : w.toNat / 2 ^ 28 = op) :
    w.extractLsb' 28 4 = BitVec.ofNat 4 op := by
  apply BitVec.eq_of_toNat_eq
  rw [toNat_slice, h, BitVec.toNat_ofNat]

theorem raisesReservedBits_of_decode {w : Word} (h : decode w = .error .reservedBits) :
    Machine.RaisesReservedBits w := by
  intro a b s
  rw [Machine.commandTurn, h]
  rfl

theorem raisesReservedBits_of_row {w : Word} {lo : Nat} {i : Instr}
    (hrow : decode w = unlessReserved (w.extractLsb' 0 lo) i) (hlow : w.toNat % 2 ^ lo ≠ 0) :
    Machine.RaisesReservedBits w := by
  rcases Machine.unlessReserved_cases (w.extractLsb' 0 lo) i with ⟨hzero, -⟩ | ⟨-, herr⟩
  · have hslice := toNat_slice w 0 lo
    rw [hzero, Nat.pow_zero, Nat.div_one] at hslice
    exact absurd hslice.symm hlow
  · exact raisesReservedBits_of_decode (hrow.trans herr)

theorem ofNat_eq_place {n : Nat} (v : BitVec n) (lo : Nat) :
    BitVec.ofNat 32 (v.toNat * 2 ^ lo) = place v lo := by
  apply BitVec.eq_of_toNat_eq
  simp [place, Nat.shiftLeft_eq]

/-- A field added below the fields placed so far is a field OR-ed in: no bit of it meets theirs. -/
theorem ofNat_add_field {N n lo : Nat} (v : BitVec n) (h : 2 ^ (lo + n) ∣ N) :
    BitVec.ofNat 32 (N + v.toNat * 2 ^ lo) = BitVec.ofNat 32 N ||| place v lo := by
  obtain ⟨a, rfl⟩ := h
  have hfits : v.toNat * 2 ^ lo < 2 ^ (lo + n) := by
    rw [Nat.pow_add, Nat.mul_comm]
    exact Nat.mul_lt_mul_of_pos_left v.isLt (by positivity)
  rw [Nat.two_pow_add_eq_or_of_lt hfits, BitVec.ofNat_or, ofNat_eq_place]

theorem ofNat_add_flag {N lo : Nat} (b : Bool) (h : 2 ^ (lo + 1) ∣ N) :
    BitVec.ofNat 32 (N + b.toNat * 2 ^ lo) =
      BitVec.ofNat 32 N ||| place (BitVec.ofBool b) lo := by
  rw [← ofNat_add_field _ h, BitVec.toNat_ofBool]

theorem ofNat_sum_eq_encode_extract (first last : BitVec 5) :
    BitVec.ofNat 32 (0x1 * 2 ^ 28 + first.toNat * 2 ^ 23 + last.toNat * 2 ^ 18) =
      encode (.extract first last) := by
  rw [ofNat_add_field _ (by omega), ofNat_add_field _ (by omega)]
  rfl

theorem ofNat_sum_eq_encode_concat (lw : BitVec 7) :
    BitVec.ofNat 32 (0x2 * 2 ^ 28 + lw.toNat * 2 ^ 21) = encode (.concat lw) := by
  rw [ofNat_add_field _ (by omega)]
  rfl

theorem ofNat_sum_eq_encode_sext32 (tw : BitVec 7) :
    BitVec.ofNat 32 (0x3 * 2 ^ 28 + tw.toNat * 2 ^ 21) = encode (.sext tw .c32) := by
  rw [ofNat_add_field _ (by omega)]
  simp [encode, place, bitOfContainer]

theorem ofNat_sum_eq_encode_sext64 (tw : BitVec 7) :
    BitVec.ofNat 32 (0x3 * 2 ^ 28 + tw.toNat * 2 ^ 21 + 2 ^ 20) = encode (.sext tw .c64) := by
  have hflag := ofNat_add_flag (N := 0x3 * 2 ^ 28 + tw.toNat * 2 ^ 21) (lo := 20) true (by omega)
  rw [Bool.toNat_true, Nat.one_mul] at hflag
  rw [hflag, ofNat_add_field _ (by omega)]
  rfl

theorem ofNat_sum_eq_encode_scale (e : BitVec 8) (sg : Bool) :
    BitVec.ofNat 32 (0x4 * 2 ^ 28 + e.toNat * 2 ^ 20 + sg.toNat * 2 ^ 19) =
      encode (.scale e sg) := by
  rw [ofNat_add_flag _ (by omega), ofNat_add_field _ (by omega)]
  rfl

theorem ofNat_sum_eq_encode_field (p : BitVec 9) (wm1 : BitVec 6) (sg sc : Bool) (e : BitVec 8) :
    BitVec.ofNat 32 (0x5 * 2 ^ 28 + p.toNat * 2 ^ 19 + wm1.toNat * 2 ^ 13 + sg.toNat * 2 ^ 12 +
      sc.toNat * 2 ^ 11 + e.toNat * 2 ^ 3) = encode (.field p wm1 sg sc e) := by
  rw [ofNat_add_field _ (by omega), ofNat_add_flag _ (by omega), ofNat_add_flag _ (by omega),
    ofNat_add_field _ (by omega), ofNat_add_field _ (by omega)]
  rfl

/-- Settles O4: each worked word is the word of its command, and decoding undoes encoding. -/
theorem workedCommandWordsDecode : Obligations.WorkedCommandWordsDecode :=
  ⟨decodeInvertsEncode .nop, decodeInvertsEncode (.extract 4 11), decodeInvertsEncode (.concat 4),
    decodeInvertsEncode (.sext 5 .c64), decodeInvertsEncode (.sext 5 .c32),
    decodeInvertsEncode (.scale 0xF7 true), decodeInvertsEncode (.field 81 25 true true 0xF7),
    decodeInvertsEncode (.crc24q 72), decodeInvertsEncode .crcchk, decodeInvertsEncode (.loadw 0),
    decodeInvertsEncode .ack, decodeInvertsEncode (.reservedAB 0x1A000000),
    decodeInvertsEncode (.reservedCF 0x3FFFFFFF)⟩

end Sys2Proof
end

section
/-! The bits of the integer results: EXTRACT, CONCAT and SEXT (40_bitfield.md R120 to R126). -/

namespace Sys2Proof.Machine

/-! ## EXTRACT -/

theorem execExtract_of_legal {first last : BitVec 5} (h : first.toNat ≤ last.toNat) (s : State) :
    execExtract first last s = .next
      (s.succeedWith (BitVec.ofNat 64 (extractBits s.operandWord first.toNat last.toNat))) :=
  if_neg (Nat.not_lt.mpr h)

/-- Bit j of an extracted range lies j positions above bit 31 - END of the word. -/
theorem getLsbD_extractBits (word : Word) {first last : Nat} (hlast : last ≤ 31) (j : Nat) :
    (BitVec.ofNat 64 (extractBits word first last)).getLsbD j =
      (decide (j ≤ last - first) && word.getLsbD (31 - last + j)) := by
  rw [BitVec.getLsbD_ofNat, extractBits, Nat.testBit_mod_two_pow, Nat.testBit_div_two_pow,
    BitVec.testBit_toNat, Nat.add_comm j, ← Bool.and_assoc, ← Bool.decide_and]
  congr 2
  simp only [eq_iff_iff]
  omega

theorem getLsbD_operandWord (s : State) {j : Nat} (hj : j < 32) :
    s.operandWord.getLsbD j = s.portA.getLsbD j := by
  simp [State.operandWord, hj]

/-- Settles O10: the bits of the range, and the word's fields and reserved bits. -/
theorem extractReturnsBitRange : Obligations.ExtractReturnsBitRange := by
  refine ⟨fun s first last h => ⟨_, execExtract_of_legal h s, fun j _ => ?_⟩,
    fun s first last h => if_pos h, fun first last => ?_, fun w hop hlow => ?_⟩
  · have hlast : last.toNat ≤ 31 := by omega
    rw [getLsbD_extractBits _ hlast]
    by_cases hj : j ≤ last.toNat - first.toNat
    · rw [getLsbD_operandWord s (by omega)]
    · simp [hj]
  · rw [ofNat_sum_eq_encode_extract]; exact decodeInvertsEncode _
  · exact raisesReservedBits_of_row (decode_extract (opcode_of_div hop)) hlow

/-! ## CONCAT -/

theorem execConcat_of_legal {lw : BitVec 7} (h : lw.toNat ≤ 63) (s : State) :
    execConcat lw s = .next (s.succeedWith (concatBits s.operandA s.operandB lw.toNat)) :=
  if_neg (Nat.not_lt.mpr h)

theorem getLsbD_concatBits (high low : Wide) (lw : Nat) {j : Nat} (hj : j < 64) :
    (concatBits high low lw).getLsbD j =
      ((decide (lw ≤ j) && high.getLsbD (j - lw)) || low.getLsbD j) := by
  rw [concatBits, BitVec.getLsbD_or, BitVec.getLsbD_shiftLeft]
  by_cases h : lw ≤ j
  · simp [hj, h, Nat.not_lt.mpr h]
  · simp [hj, h, Nat.lt_of_not_le h]

/-- A low part below 2^LW meets no bit of the shifted high part, so OR is addition (R121). -/
theorem toNat_concatBits_of_lt (high : Wide) {low : Wide} {lw : Nat} (h : low.toNat < 2 ^ lw) :
    (concatBits high low lw).toNat = (high.toNat * 2 ^ lw + low.toNat) % 2 ^ 64 := by
  have hdisjoint : high <<< lw &&& low = 0#64 := by
    apply BitVec.eq_of_getLsbD_eq
    intro j hj
    by_cases hlw : j < lw
    · simp [hlw]
    · have hbound : low.toNat < 2 ^ j :=
        h.trans_le (Nat.pow_le_pow_right (by omega) (Nat.not_lt.mp hlw))
      have hzero : low.getLsbD j = false := Nat.testBit_lt_two_pow hbound
      simp [hzero]
  rw [concatBits, ← BitVec.add_eq_or_of_and_eq_zero _ _ hdisjoint, BitVec.toNat_add,
    BitVec.toNat_shiftLeft, Nat.shiftLeft_eq, Nat.mod_add_mod]

/-- Settles O11: the bits of shift and OR, and the word's fields and reserved bits. -/
theorem concatJoinsHighAndLow : Obligations.ConcatJoinsHighAndLow := by
  refine ⟨fun s lw h => ⟨_, execConcat_of_legal h s, fun j hj => ?_, fun hlow => ?_⟩,
    fun s lw h => if_pos h, fun lw => ?_, fun w hop hlow => ?_⟩
  · exact getLsbD_concatBits _ _ _ hj
  · exact toNat_concatBits_of_lt _ hlow
  · rw [ofNat_sum_eq_encode_concat]; exact decodeInvertsEncode _
  · exact raisesReservedBits_of_row (decode_concat (opcode_of_div hop)) hlow

/-! ## SEXT -/

theorem execSext_of_legal {tw : BitVec 7} {cw : Container} (hpos : 1 ≤ tw.toNat)
    (hwidth : tw.toNat ≤ cw.width) (s : State) :
    execSext tw cw s = .next (s.succeedWith (signExtendBits cw s.operandA tw.toNat)) :=
  if_neg (by omega)

/-- sext_N of R10 is the two's-complement reading of the low N bits. -/
theorem sextN_eq_toInt (n v : Nat) : sextN n v = (BitVec.ofNat n v).toInt := by
  cases n with
  | zero => simp [sextN, zextN, Nat.mod_one, BitVec.toInt_zero_length]
  | succ n =>
    rw [sextN, zextN, BitVec.toInt_eq_toNat_cond, BitVec.toNat_ofNat, Nat.add_sub_cancel,
      Nat.pow_succ]
    push_cast
    split <;> split <;> omega

/-- Wrapping a sign-extended integer copies its bits and then its sign bit (R122). -/
theorem getLsbD_wrapN_sextN (c v : Nat) {n : Nat} (hn : 1 ≤ n) (j : Nat) :
    (wrapN c (sextN n v)).getLsbD j =
      (decide (j < c) && if j < n then v.testBit j else v.testBit (n - 1)) := by
  rw [sextN_eq_toInt, wrapN, ← BitVec.signExtend, BitVec.getLsbD_signExtend]
  have hsign : n - 1 < n := by omega
  simp only [BitVec.msb_eq_getLsbD_last, BitVec.getLsbD_ofNat, hsign, decide_true, Bool.true_and]
  by_cases hj : j < n <;> simp [hj]

theorem getLsbD_signExtendBits (c : Container) (value : Wide) {tw : Nat} (hpos : 1 ≤ tw)
    (hwidth : tw ≤ c.width) {j : Nat} (hj : j < 64) :
    (signExtendBits c value tw).getLsbD j =
      if j < tw then value.getLsbD j
      else if j < c.width then value.getLsbD (tw - 1) else false := by
  cases c with
  | c32 =>
    simp only [Container.width] at hwidth ⊢
    rw [signExtendBits, BitVec.getLsbD_setWidth, getLsbD_wrapN_sextN _ _ hpos]
    simp only [BitVec.testBit_toNat]
    by_cases hlow : j < tw
    · have h32 : j < 32 := by omega
      simp only [hj, hlow, h32, decide_true, Bool.true_and, if_true]
    · by_cases h32 : j < 32 <;> simp [hj, hlow, h32]
  | c64 =>
    simp only [Container.width] at hwidth ⊢
    rw [signExtendBits, getLsbD_wrapN_sextN _ _ hpos]
    simp only [BitVec.testBit_toNat, hj, decide_true, Bool.true_and, if_true]

/-- Settles O12: the bits of the sign extension, and the word's fields and reserved bits. -/
theorem sextFillsWithSignBit : Obligations.SextFillsWithSignBit := by
  refine ⟨fun s tw cw hpos hwidth => ⟨_, execSext_of_legal hpos hwidth s, fun j hj => ?_⟩,
    fun s tw cw h => if_pos h, ⟨rfl, rfl⟩, fun tw => ⟨?_, ?_⟩, fun w hop hlow => ?_⟩
  · exact getLsbD_signExtendBits cw _ hpos hwidth hj
  · rw [ofNat_sum_eq_encode_sext32]; exact decodeInvertsEncode _
  · rw [ofNat_sum_eq_encode_sext64]; exact decodeInvertsEncode _
  · exact raisesReservedBits_of_row (decode_sext (opcode_of_div hop)) hlow

end Sys2Proof.Machine
end

section
/-! Rounding to binary64 (00_scope.md R10, 40_bitfield.md R123): a binary64 number is an integer
multiple of the unit in the last place of the operand, or smaller than every number of the operand's
binade; among the multiples, rounding the significand to an integer picks the nearest. -/

namespace Sys2Proof.Machine

/-! ## Nearest on the grid of one binade -/

/-- The sign of a number whose sign bit is `negative`. -/
def signOf (negative : Bool) : ℤ := if negative then -1 else 1

theorem abs_signOf (negative : Bool) : |signOf negative| = 1 := by cases negative <;> rfl

theorem signOf_mul_natAbs (v : ℤ) : signOf (decide (v < 0)) * v.natAbs = v := by
  by_cases h : v < 0
  · simp only [signOf, h, decide_true, if_true]; omega
  · simp only [signOf, h, decide_false, Bool.false_eq_true, if_false]; omega

section
variable {b : Wide}

theorem binary64Value_of_subnormal (h : (b.extractLsb' 52 11).toNat = 0) :
    binary64Value b =
      signOf (b.getLsbD 63) * (b.extractLsb' 0 52).toNat * 2 ^ (-1074 : ℤ) := by
  simp only [binary64Value, h, if_true, signOf, Int.cast_ite, Int.cast_neg, Int.cast_one]

theorem binary64Value_of_normal (h : (b.extractLsb' 52 11).toNat ≠ 0) :
    binary64Value b = signOf (b.getLsbD 63) * (2 ^ 52 + (b.extractLsb' 0 52).toNat) *
      2 ^ (((b.extractLsb' 52 11).toNat : ℤ) - 1075) := by
  simp only [binary64Value, h, if_false, signOf, Int.cast_ite, Int.cast_neg, Int.cast_one]

end

/-- A binary64 number is an integer significand below 2^53, scaled. -/
theorem binary64Value_eq_significand (b : Wide) :
    ∃ c q : ℤ, |c| < 2 ^ 53 ∧ binary64Value b = c * (2 : ℚ) ^ q := by
  have hfraction := (b.extractLsb' 0 52).isLt
  by_cases hexp : (b.extractLsb' 52 11).toNat = 0
  · refine ⟨signOf (b.getLsbD 63) * (b.extractLsb' 0 52).toNat, -1074, ?_, ?_⟩
    · rw [abs_mul, abs_signOf, Nat.abs_cast]; omega
    · rw [binary64Value_of_subnormal hexp, Int.cast_mul, Int.cast_natCast]
  · refine ⟨signOf (b.getLsbD 63) * (2 ^ 52 + (b.extractLsb' 0 52).toNat : ℕ),
      (b.extractLsb' 52 11).toNat - 1075, ?_, ?_⟩
    · rw [abs_mul, abs_signOf, Nat.abs_cast]; omega
    · rw [binary64Value_of_normal hexp]; push_cast; rfl

/-- In units of 2^k every binary64 number is an integer, or below the significands of that unit. -/
theorem binary64Value_on_grid (b : Wide) (k : ℤ) :
    ∃ z : ℚ, binary64Value b = z * 2 ^ k ∧ ((∃ n : ℤ, z = n) ∨ |z| < 2 ^ 52) := by
  obtain ⟨c, q, hc, hval⟩ := binary64Value_eq_significand b
  refine ⟨c * 2 ^ (q - k), ?_, ?_⟩
  · rw [hval, mul_assoc, ← zpow_add₀ two_ne_zero, sub_add_cancel]
  · rcases le_or_gt k q with hkq | hkq
    · left
      obtain ⟨d, hd⟩ := Int.eq_ofNat_of_zero_le (sub_nonneg.mpr hkq)
      exact ⟨c * 2 ^ d, by rw [hd]; push_cast; rfl⟩
    · right
      have hcq : |(c : ℚ)| < 2 ^ 53 := by exact_mod_cast hc
      have hpow : (2 : ℚ) ^ (q - k) ≤ 2 ^ (-1 : ℤ) :=
        zpow_le_zpow_right₀ one_le_two (by omega)
      calc |(c : ℚ) * 2 ^ (q - k)| = |(c : ℚ)| * 2 ^ (q - k) := by
            rw [abs_mul, abs_of_pos (zpow_pos two_pos _ : (0 : ℚ) < 2 ^ (q - k))]
        _ ≤ |(c : ℚ)| * 2 ^ (-1 : ℤ) := mul_le_mul_of_nonneg_left hpow (abs_nonneg _)
        _ < 2 ^ 52 := by norm_num; linarith

/-- An integer at most 1/2 from t is nearest t among all integers, and another is as near only where
the distance is 1/2. -/
theorem nearest_integer {t : ℚ} {R : ℤ} (hR : |R - t| ≤ 1 / 2) (n : ℤ) :
    |R - t| ≤ |n - t| ∧ (|(n : ℚ) - t| = |R - t| → n = R ∨ |R - t| = 1 / 2) := by
  by_cases h : n = R
  · subst h; simp
  · have hapart : (1 : ℚ) ≤ |(n : ℚ) - R| := by
      exact_mod_cast Int.one_le_abs (sub_ne_zero.mpr h)
    have htriangle : |(n : ℚ) - R| ≤ |n - t| + |R - t| := by
      rw [abs_sub_comm (R : ℚ) t]; exact abs_sub_le _ _ _
    exact ⟨by linarith, fun heq => .inr (by linarith)⟩

/-- The same among all points of the grid: those below 2^52 are farther from t than ±2^52 is. -/
theorem nearest_on_grid {t z : ℚ} {R : ℤ} (ht : 2 ^ 52 ≤ |t|) (hR : |R - t| ≤ 1 / 2)
    (hz : (∃ n : ℤ, z = n) ∨ |z| < 2 ^ 52) :
    |R - t| ≤ |z - t| ∧ (|z - t| = |R - t| → z = R ∨ |R - t| = 1 / 2) := by
  rcases hz with ⟨n, rfl⟩ | hsmall
  · exact_mod_cast nearest_integer hR n
  · have hedge : |R - t| ≤ |t| - 2 ^ 52 := by
      rcases le_total 0 t with hpos | hneg
      · rw [abs_of_nonneg hpos] at ht ⊢
        calc |R - t| ≤ |((2 ^ 52 : ℤ) : ℚ) - t| := (nearest_integer hR _).1
          _ = t - 2 ^ 52 := by
            rw [Int.cast_pow, Int.cast_ofNat, abs_sub_comm, abs_of_nonneg (sub_nonneg.mpr ht)]
      · rw [abs_of_nonpos hneg] at ht ⊢
        calc |R - t| ≤ |((-2 ^ 52 : ℤ) : ℚ) - t| := (nearest_integer hR _).1
          _ = -t - 2 ^ 52 := by push_cast; rw [abs_of_nonneg (by linarith)]; ring
    have hfar : |t| - |z| ≤ |z - t| := by
      rw [abs_sub_comm z]; exact abs_sub_abs_le_abs_sub t z
    exact ⟨by linarith, fun heq => by linarith⟩

/-- A finite pattern whose significand is nearest the operand's, ties to even, in the operand's
binade is the operand rounded to nearest even. -/
theorem roundsToNearestEven_of_grid {r : Wide} {k R : ℤ} {t : ℚ} (hfinite : binary64Finite r)
    (hval : binary64Value r = R * 2 ^ k) (ht : 2 ^ 52 ≤ |t|) (hR : |R - t| ≤ 1 / 2)
    (htie : |R - t| = 1 / 2 → r.getLsbD 0 = false) : RoundsToNearestEven (t * 2 ^ k) r := by
  refine ⟨hfinite, fun y _ => ?_⟩
  obtain ⟨z, hz, hgrid⟩ := binary64Value_on_grid y k
  obtain ⟨hle, heq⟩ := nearest_on_grid ht hR hgrid
  have hunit : (0 : ℚ) < 2 ^ k := zpow_pos two_pos k
  have hdistance (u : ℚ) : |u * 2 ^ k - t * 2 ^ k| = |u - t| * 2 ^ k := by
    rw [← sub_mul, abs_mul, abs_of_pos hunit]
  rw [hval, hz, hdistance, hdistance]
  refine ⟨mul_le_mul_of_nonneg_right hle hunit.le, fun h => ?_⟩
  rcases heq (mul_right_cancel₀ hunit.ne' h) with rfl | hhalf
  · exact .inl rfl
  · exact .inr (htie hhalf)

/-! ## The rounded significand -/

/-- The operand's own significand, before rounding: m scaled into [2^52, 2^53). -/
def exactSignificand (m : ℕ) : ℚ := m * 2 ^ (52 - Nat.log2 m : ℤ)

section
variable {m : ℕ}

theorem exactSignificand_eq_cast (h : Nat.log2 m ≤ 52) :
    exactSignificand m = roundedSignificand m := by
  have hexp : (52 - Nat.log2 m : ℤ) = ((52 - Nat.log2 m : ℕ) : ℤ) := by omega
  rw [exactSignificand, roundedSignificand, if_pos h, hexp, zpow_natCast]
  push_cast
  rfl

theorem exactSignificand_eq_div (h : ¬ Nat.log2 m ≤ 52) :
    exactSignificand m = m / ((2 ^ (Nat.log2 m - 52) : ℕ) : ℚ) := by
  have hexp : (52 - Nat.log2 m : ℤ) = -((Nat.log2 m - 52 : ℕ) : ℤ) := by omega
  rw [exactSignificand, hexp, zpow_neg, zpow_natCast, div_eq_mul_inv]
  push_cast
  rfl

theorem le_exactSignificand (hm : m ≠ 0) : 2 ^ 52 ≤ exactSignificand m := by
  have hlog : (2 : ℚ) ^ Nat.log2 m ≤ m := by exact_mod_cast Nat.log2_self_le hm
  calc (2 : ℚ) ^ 52 = 2 ^ Nat.log2 m * 2 ^ (52 - Nat.log2 m : ℤ) := by
        rw [← zpow_natCast 2 (Nat.log2 m), ← zpow_add₀ two_ne_zero, add_sub_cancel]; rfl
    _ ≤ exactSignificand m := mul_le_mul_of_nonneg_right hlog (zpow_pos two_pos _).le

theorem exactSignificand_lt : exactSignificand m < 2 ^ 53 := by
  have hlog : (m : ℚ) < 2 ^ (Nat.log2 m + 1) := by exact_mod_cast Nat.lt_log2_self
  calc exactSignificand m < 2 ^ (Nat.log2 m + 1) * 2 ^ (52 - Nat.log2 m : ℤ) :=
        mul_lt_mul_of_pos_right hlog (zpow_pos two_pos _)
    _ = 2 ^ 53 := by
        rw [← zpow_natCast, ← zpow_add₀ two_ne_zero]
        have hexp : ((Nat.log2 m + 1 : ℕ) : ℤ) + (52 - Nat.log2 m : ℤ) = 53 := by push_cast; ring
        rw [hexp]; norm_num

end

/-- Division with the remainder compared to half the divisor, ties to even, is off by half the
divisor at most, and by half only with an even quotient. -/
theorem roundedQuotient_error {m unit R : ℕ} (hunit : 0 < unit)
    (hR : R = if unit < 2 * (m % unit) ∨ (2 * (m % unit) = unit ∧ m / unit % 2 = 1)
      then m / unit + 1 else m / unit) :
    2 * ((R * unit : ℤ) - m).natAbs ≤ unit ∧
      (2 * ((R * unit : ℤ) - m).natAbs = unit → R % 2 = 0) := by
  have hsplit : ((m / unit : ℕ) * unit : ℤ) + (m % unit : ℕ) = m := by
    exact_mod_cast Nat.div_add_mod' m unit
  have hlt := Nat.mod_lt m hunit
  split at hR
  case isTrue hup =>
    have herror : (R * unit : ℤ) - m = unit - (m % unit : ℕ) := by
      rw [hR, Nat.cast_add_one]; linarith
    rw [herror]; omega
  case isFalse hdown =>
    have herror : (R * unit : ℤ) - m = -(m % unit : ℕ) := by
      rw [hR]; linarith
    rw [herror]; omega

theorem roundedQuotient_nearest {m unit R : ℕ} (hunit : 0 < unit)
    (hR : R = if unit < 2 * (m % unit) ∨ (2 * (m % unit) = unit ∧ m / unit % 2 = 1)
      then m / unit + 1 else m / unit) :
    |(R : ℚ) - m / unit| ≤ 1 / 2 ∧ (|(R : ℚ) - m / unit| = 1 / 2 → R % 2 = 0) := by
  obtain ⟨hle, htie⟩ := roundedQuotient_error hunit hR
  have hpos : (0 : ℚ) < unit := by exact_mod_cast hunit
  have hdistance : |(R : ℚ) - m / unit| = (((R * unit : ℤ) - m).natAbs : ℚ) / unit := by
    rw [Nat.cast_natAbs, Int.cast_abs, eq_div_iff hpos.ne', ← abs_of_pos hpos, ← abs_mul,
      abs_of_pos hpos, sub_mul, div_mul_cancel₀ _ hpos.ne']
    push_cast
    rfl
  rw [hdistance, div_le_div_iff₀ hpos two_pos, div_eq_div_iff hpos.ne' two_ne_zero, one_mul,
    mul_comm _ (2 : ℚ)]
  exact ⟨by exact_mod_cast hle, fun h => htie (by exact_mod_cast h)⟩

theorem roundedSignificand_nearest (m : ℕ) :
    |(roundedSignificand m : ℚ) - exactSignificand m| ≤ 1 / 2 ∧
      (|(roundedSignificand m : ℚ) - exactSignificand m| = 1 / 2 →
        roundedSignificand m % 2 = 0) := by
  by_cases h : Nat.log2 m ≤ 52
  · norm_num [exactSignificand_eq_cast h]
  · rw [exactSignificand_eq_div h]
    exact roundedQuotient_nearest (by positivity) (by rw [roundedSignificand, if_neg h])

theorem roundedSignificand_mem {m : ℕ} (hm : m ≠ 0) :
    2 ^ 52 ≤ roundedSignificand m ∧ roundedSignificand m ≤ 2 ^ 53 := by
  have hnear := abs_le.mp (roundedSignificand_nearest m).1
  have hlo := le_exactSignificand hm
  have hhi := exactSignificand_lt (m := m)
  constructor
  · have h : ((2 ^ 52 : ℕ) : ℚ) < (roundedSignificand m + 1 : ℕ) := by push_cast; linarith
    have := Nat.cast_lt.mp h
    omega
  · have h : ((roundedSignificand m : ℕ) : ℚ) < (2 ^ 53 + 1 : ℕ) := by push_cast; linarith
    have := Nat.cast_lt.mp h
    omega

end Sys2Proof.Machine
end

section
/-! The fields of the pattern that SCALE and FIELD build, and scaling as rounding to nearest even
(40_bitfield.md R123, R127). -/

namespace Sys2Proof.Machine

/-! ## The pattern -/

/-- A sign, an exponent field and a fraction that may carry into it, read back from their sum. -/
theorem fields_of_sum {N sign exponent fraction : ℕ}
    (hN : N = sign * 2 ^ 63 + exponent * 2 ^ 52 + fraction) (hsign : sign ≤ 1)
    (hexponent : exponent ≤ 2046) (hfraction : fraction ≤ 2 ^ 52) :
    N / 2 ^ 63 % 2 = sign ∧ N % 2 = fraction % 2 ∧
      ((fraction < 2 ^ 52 ∧ N / 2 ^ 52 % 2 ^ 11 = exponent ∧ N % 2 ^ 52 = fraction) ∨
        (fraction = 2 ^ 52 ∧ N / 2 ^ 52 % 2 ^ 11 = exponent + 1 ∧ N % 2 ^ 52 = 0)) := by
  subst hN
  refine ⟨by omega, by omega, ?_⟩
  rcases hfraction.lt_or_eq with h | h
  · exact .inl ⟨h, by omega, by omega⟩
  · exact .inr ⟨h, by omega, by omega⟩

section
variable (negative : Bool) {m : ℕ} {e : ℤ}

theorem normalPattern_eq_ofNat_sum :
    normalPattern negative m e = BitVec.ofNat 64 (negative.toNat * 2 ^ 63 +
      (e + Nat.log2 m + 1023).toNat * 2 ^ 52 + (roundedSignificand m - 2 ^ 52)) := by
  cases negative <;> simp [normalPattern]

variable (hm : m ≠ 0) (hlo : -1022 ≤ e + Nat.log2 m) (hhi : e + Nat.log2 m ≤ 1022)
include hm hlo hhi

theorem toNat_normalPattern :
    (normalPattern negative m e).toNat = negative.toNat * 2 ^ 63 +
      (e + Nat.log2 m + 1023).toNat * 2 ^ 52 + (roundedSignificand m - 2 ^ 52) := by
  obtain ⟨hRlo, hRhi⟩ := roundedSignificand_mem hm
  have hbit := negative.toNat_le
  rw [normalPattern_eq_ofNat_sum, BitVec.toNat_ofNat]
  exact Nat.mod_eq_of_lt (by omega)

/-- The fields of the pattern: the rounded significand's fraction, or, where it rounded up to 2^53,
a zero fraction and the next exponent. -/
theorem normalPattern_fields :
    (normalPattern negative m e).getLsbD 63 = negative ∧
    (normalPattern negative m e).getLsbD 0 = decide (roundedSignificand m % 2 = 1) ∧
    ((roundedSignificand m < 2 ^ 53 ∧
        (((normalPattern negative m e).extractLsb' 52 11).toNat : ℤ) = e + Nat.log2 m + 1023 ∧
        ((normalPattern negative m e).extractLsb' 0 52).toNat = roundedSignificand m - 2 ^ 52) ∨
      (roundedSignificand m = 2 ^ 53 ∧
        (((normalPattern negative m e).extractLsb' 52 11).toNat : ℤ) = e + Nat.log2 m + 1024 ∧
        ((normalPattern negative m e).extractLsb' 0 52).toNat = 0)) := by
  obtain ⟨hRlo, hRhi⟩ := roundedSignificand_mem hm
  obtain ⟨hsign, hlast, hfields⟩ := fields_of_sum (toNat_normalPattern negative hm hlo hhi)
    negative.toNat_le (by omega) (by omega)
  rw [toNat_slice, toNat_slice, Nat.pow_zero, Nat.div_one]
  refine ⟨?_, ?_, ?_⟩
  · rw [BitVec.getLsbD, Nat.testBit_eq_decide_div_mod_eq, hsign]
    cases negative <;> rfl
  · rw [BitVec.getLsbD, Nat.testBit_eq_decide_div_mod_eq, Nat.pow_zero, Nat.div_one, hlast]
    exact decide_eq_decide.mpr (by omega)
  · rcases hfields with ⟨hF, hE, hf⟩ | ⟨hF, hE, hf⟩
    · exact .inl ⟨by omega, by omega, hf⟩
    · exact .inr ⟨by omega, by omega, hf⟩

theorem normalPattern_is_normal :
    0 < ((normalPattern negative m e).extractLsb' 52 11).toNat ∧
      ((normalPattern negative m e).extractLsb' 52 11).toNat < 2047 := by
  obtain ⟨-, -, ⟨-, hE, -⟩ | ⟨-, hE, -⟩⟩ := normalPattern_fields negative hm hlo hhi <;> omega

/-- The pattern stands for the signed rounded significand in the unit of the operand's binade. -/
theorem binary64Value_normalPattern :
    binary64Value (normalPattern negative m e) =
      (signOf negative * roundedSignificand m : ℤ) * 2 ^ (e + Nat.log2 m - 52) := by
  obtain ⟨hRlo, -⟩ := roundedSignificand_mem hm
  have hnormal := (normalPattern_is_normal negative hm hlo hhi).1
  obtain ⟨hsign, -, hfields⟩ := normalPattern_fields negative hm hlo hhi
  rw [binary64Value_of_normal hnormal.ne', hsign]
  rcases hfields with ⟨-, hE, hf⟩ | ⟨hR, hE, hf⟩
  · have hexp : e + Nat.log2 m + 1023 - 1075 = e + Nat.log2 m - 52 := by ring
    rw [hE, hf, hexp, Nat.cast_sub hRlo]
    push_cast
    ring
  · have hexp : e + Nat.log2 m + 1024 - 1075 = (e + Nat.log2 m - 52) + 1 := by ring
    rw [hE, hf, hR, hexp, zpow_add_one₀ two_ne_zero]
    push_cast
    ring

end

/-! ## Scaling -/

/-- The range of R123. -/
theorem leading_bit_in_range {v e : ℤ} (hsize : v.natAbs ≤ 2 ^ 64) (helo : -128 ≤ e)
    (hehi : e ≤ 127) : -1022 ≤ e + Nat.log2 v.natAbs ∧ e + Nat.log2 v.natAbs ≤ 1022 := by
  have hlog : Nat.log2 v.natAbs ≤ 64 := by
    rcases eq_or_ne v.natAbs 0 with h | h
    · simp [h]
    · exact Nat.lt_succ_iff.mp ((Nat.log2_lt h).mpr (by omega))
  omega

theorem scaleBits_of_ne_zero {v : ℤ} (hv : v ≠ 0) (e : ℤ) :
    scaleBits v e = normalPattern (decide (v < 0)) v.natAbs e := if_neg hv

/-- An integer times a power of two is its signed significand in the unit of its binade. -/
theorem scaled_eq_significand (v e : ℤ) :
    (v : ℚ) * 2 ^ e = signOf (decide (v < 0)) * exactSignificand v.natAbs *
      2 ^ (e + Nat.log2 v.natAbs - 52) := by
  have hv : (v : ℚ) = signOf (decide (v < 0)) * v.natAbs := by
    rw [← Int.cast_natCast v.natAbs, ← Int.cast_mul, signOf_mul_natAbs]
  have hexp : (52 - Nat.log2 v.natAbs : ℤ) + (e + Nat.log2 v.natAbs - 52) = e := by ring
  rw [exactSignificand, mul_assoc, mul_assoc, ← zpow_add₀ two_ne_zero, hexp, ← mul_assoc, ← hv]

theorem zero_roundsToNearestEven : RoundsToNearestEven 0 0#64 := by
  have hzero : binary64Value 0#64 = 0 := by rw [binary64Value_of_subnormal (by rfl)]; simp
  refine ⟨by simp [binary64Finite], fun y _ => ⟨?_, fun _ => .inr rfl⟩⟩
  rw [hzero, sub_zero, abs_zero]
  exact abs_nonneg _

/-- R123: scaling rounds to nearest even. -/
theorem scaleBits_roundsToNearestEven {v e : ℤ} (hsize : v.natAbs ≤ 2 ^ 64) (helo : -128 ≤ e)
    (hehi : e ≤ 127) : RoundsToNearestEven ((v : ℚ) * 2 ^ e) (scaleBits v e) := by
  by_cases hv : v = 0
  · subst hv; simpa [scaleBits] using zero_roundsToNearestEven
  · have hm : v.natAbs ≠ 0 := Int.natAbs_ne_zero.mpr hv
    obtain ⟨hlo, hhi⟩ := leading_bit_in_range hsize helo hehi
    have hsign : |((signOf (decide (v < 0)) : ℤ) : ℚ)| = 1 := by exact_mod_cast abs_signOf _
    obtain ⟨hnear, htie⟩ := roundedSignificand_nearest v.natAbs
    have hdistance : |((signOf (decide (v < 0)) * roundedSignificand v.natAbs : ℤ) : ℚ) -
        signOf (decide (v < 0)) * exactSignificand v.natAbs| =
          |(roundedSignificand v.natAbs : ℚ) - exactSignificand v.natAbs| := by
      rw [Int.cast_mul, Int.cast_natCast, ← mul_sub, abs_mul, hsign, one_mul]
    rw [scaleBits_of_ne_zero hv, scaled_eq_significand]
    apply roundsToNearestEven_of_grid
    · exact (normalPattern_is_normal _ hm hlo hhi).2.ne
    · exact binary64Value_normalPattern _ hm hlo hhi
    · rw [abs_mul, hsign, one_mul]
      exact (le_exactSignificand hm).trans (le_abs_self _)
    · rwa [hdistance]
    · intro hhalf
      obtain ⟨-, hlast, -⟩ := normalPattern_fields (decide (v < 0)) hm hlo hhi
      rw [hdistance] at hhalf
      rw [hlast, htie hhalf]
      rfl

/-- Settles O14: the leading bit's weight keeps the exponent field between its extremes, and a
significand of at most 53 bits is not rounded. -/
theorem scaleIsNormalAndExactWhenSmall : Obligations.ScaleIsNormalAndExactWhenSmall := by
  intro v e hv hsize helo hehi
  have hm : v.natAbs ≠ 0 := Int.natAbs_ne_zero.mpr hv
  obtain ⟨hlo, hhi⟩ := leading_bit_in_range hsize helo hehi
  obtain ⟨hpos, hlt⟩ := normalPattern_is_normal (decide (v < 0)) hm hlo hhi
  rw [scaleBits_of_ne_zero hv]
  refine ⟨hpos, hlt, fun hsmall => ?_⟩
  have hlog : Nat.log2 v.natAbs ≤ 52 := Nat.lt_succ_iff.mp ((Nat.log2_lt hm).mpr hsmall)
  rw [binary64Value_normalPattern _ hm hlo hhi, scaled_eq_significand v,
    exactSignificand_eq_cast hlog, Int.cast_mul, Int.cast_natCast]

theorem sextN_toNat {n : ℕ} (b : BitVec n) : sextN n b.toNat = b.toInt := by
  rw [sextN_eq_toInt, BitVec.ofNat_toNat, BitVec.setWidth_eq]

theorem scaleOperand_eq (sg : Bool) (a : Wide) :
    scaleOperand sg a = if sg then a.toInt else (a.toNat : ℤ) := by
  rw [scaleOperand, sextN_toNat, zextN, Nat.mod_eq_of_lt a.isLt]

theorem natAbs_scaleOperand_le (sg : Bool) (a : Wide) : (scaleOperand sg a).natAbs ≤ 2 ^ 64 := by
  have := a.isLt
  have := BitVec.le_toInt a
  have := BitVec.toInt_lt (x := a)
  rw [scaleOperand_eq]
  split <;> omega

/-- Every exponent field is in the range of R123. -/
theorem scaleBits_exponentOf_roundsToNearestEven {v : ℤ} (hsize : v.natAbs ≤ 2 ^ 64)
    (e : BitVec 8) :
    RoundsToNearestEven ((v : ℚ) * (2 : ℚ) ^ e.toInt) (scaleBits v (exponentOf e)) := by
  rw [exponentOf_eq_toInt]
  exact scaleBits_roundsToNearestEven hsize (BitVec.le_toInt e)
    (Int.le_of_lt_add_one BitVec.toInt_lt)

/-- Settles O13: the operand's integer and the exponent are in the range of R123, where scaling
rounds to nearest even; and the word's fields and reserved bits. -/
theorem scaleRoundsToNearestEven : Obligations.ScaleRoundsToNearestEven := by
  refine ⟨fun s e sg => ?_, fun e sg => ?_, fun w hop hlow => ?_⟩
  · intro v
    have hv : v = scaleOperand sg s.operandA := (scaleOperand_eq sg s.portA).symm
    rw [hv]
    exact ⟨_, rfl, scaleBits_exponentOf_roundsToNearestEven (natAbs_scaleOperand_le sg _) e,
      fun hzero => if_pos hzero⟩
  · rw [ofNat_sum_eq_encode_scale]; exact decodeInvertsEncode _
  · exact raisesReservedBits_of_row (decode_scale (opcode_of_div hop)) hlow

end Sys2Proof.Machine
end

section
/-! Fields of the message stream (00_scope.md R9, 40_bitfield.md R128). -/

namespace Sys2Proof.Machine

/-! ## The field as a number -/

theorem sfield_lt (pw : Vector Word 10) (p w : ℕ) : sfield pw p w < 2 ^ w := by
  induction w with
  | zero => simp [sfield]
  | succ w ih =>
    have hbit := (sbit pw (p + w)).toNat_le
    rw [sfield_succ, Nat.pow_succ]
    omega

/-- Bit j of a field is the stream bit j places before its last. -/
theorem testBit_sfield (pw : Vector Word 10) (p w j : ℕ) :
    (sfield pw p w).testBit j = (decide (j < w) && sbit pw (p + (w - 1 - j))) := by
  induction w generalizing j with
  | zero => simp [sfield]
  | succ w ih =>
    rw [sfield_succ]
    cases j with
    | zero => cases h : sbit pw (p + w) <;> simp [h, Nat.testBit_zero]
    | succ j =>
      have hhalf : (2 * sfield pw p w + (sbit pw (p + w)).toNat) / 2 = sfield pw p w := by
        have hbit := (sbit pw (p + w)).toNat_le
        omega
      have hplace : w + 1 - 1 - (j + 1) = w - 1 - j := by omega
      rw [Nat.testBit_succ, hhalf, ih, hplace]
      simp

/-- The integer of a field: its bits' number, less 2^W where it is signed and its first bit is 1. -/
theorem fieldInteger_sfield (sg : Bool) (pw : Vector Word 10) (p w : ℕ) :
    fieldInteger sg (w + 1) (sfield pw p (w + 1)) =
      if sg && sbit pw p then (sfield pw p (w + 1) : ℤ) - 2 ^ (w + 1)
      else (sfield pw p (w + 1) : ℤ) := by
  cases sg with
  | false => simp [fieldInteger]
  | true =>
    have hmsb : (BitVec.ofNat (w + 1) (sfield pw p (w + 1))).msb = sbit pw p := by
      rw [BitVec.msb_eq_getLsbD_last, BitVec.getLsbD_ofNat, testBit_sfield]
      simp
    have hnat : (BitVec.ofNat (w + 1) (sfield pw p (w + 1))).toNat = sfield pw p (w + 1) :=
      Nat.mod_eq_of_lt (sfield_lt pw p (w + 1))
    simp [fieldInteger, sextN_eq_toInt, BitVec.toInt_eq_msb_cond, hmsb, hnat]

theorem natAbs_fieldInteger_le (sg : Bool) (pw : Vector Word 10) (p : ℕ) {w : ℕ} (hw : w < 64) :
    (fieldInteger sg (w + 1) (sfield pw p (w + 1))).natAbs ≤ 2 ^ 64 := by
  have hlt := sfield_lt pw p (w + 1)
  have hpow : 2 ^ (w + 1) ≤ 2 ^ 64 := Nat.pow_le_pow_right two_pos hw
  have hcast : ((2 ^ (w + 1) : ℕ) : ℤ) = 2 ^ (w + 1) := by push_cast; rfl
  rw [fieldInteger_sfield, ← hcast]
  split <;> omega

/-! ## FIELD -/

theorem not_unscaled_exponent {sc : Bool} {e : BitVec 8} (h : sc = true ∨ e = 0) :
    ¬ (sc = false ∧ e ≠ 0) := by
  rintro ⟨rfl, hne⟩
  exact hne (h.resolve_left Bool.false_ne_true)

section
variable {p : BitVec 9} {wm1 : BitVec 6} (sg : Bool) (s : State)

theorem execField_unscaled (hrange : p.toNat + fieldWidth wm1 ≤ 320) :
    execField p wm1 sg false 0 s = .next (s.succeedWith
      (wrapN 64 (fieldInteger sg (fieldWidth wm1) (sfield s.pw p.toNat (fieldWidth wm1))))) := by
  rw [execField, if_neg (not_unscaled_exponent (.inr rfl)), if_neg (Nat.not_lt.mpr hrange)]
  simp only [Bool.false_eq_true, if_false]

theorem execField_scaled (e : BitVec 8) (hrange : p.toNat + fieldWidth wm1 ≤ 320) :
    execField p wm1 sg true e s = .next (s.succeedWith
      (scaleBits (fieldInteger sg (fieldWidth wm1) (sfield s.pw p.toNat (fieldWidth wm1)))
        (exponentOf e))) := by
  rw [execField, if_neg (not_unscaled_exponent (.inl rfl)), if_neg (Nat.not_lt.mpr hrange)]
  simp only [if_true]

theorem execField_out_of_range {sc : Bool} {e : BitVec 8} (hexp : sc = true ∨ e = 0)
    (hrange : 320 < p.toNat + fieldWidth wm1) :
    execField p wm1 sg sc e s = .next (s.raiseCmdError .range) := by
  rw [execField, if_neg (not_unscaled_exponent hexp), if_pos hrange]

end

/-- The bits of the unscaled result: the field's, and above them zeros or copies of the first. -/
theorem getLsbD_wrapN_fieldInteger (sg : Bool) (pw : Vector Word 10) (p w : ℕ) {j : ℕ}
    (hj : j < 64) :
    (wrapN 64 (fieldInteger sg (w + 1) (sfield pw p (w + 1)))).getLsbD j =
      if j ≤ w then sbit pw (p + w - j) else sg && sbit pw p := by
  have hplace (hjw : j ≤ w) : p + (w - j) = p + w - j := by omega
  cases sg with
  | false =>
    simp only [fieldInteger, Bool.false_eq_true, if_false, wrapN, BitVec.ofInt_natCast,
      BitVec.getLsbD_ofNat, testBit_sfield, hj, Nat.lt_succ_iff]
    by_cases hjw : j ≤ w
    · simp [hjw, hplace hjw]
    · simp [hjw]
  | true =>
    simp only [fieldInteger, if_true, getLsbD_wrapN_sextN _ _ (Nat.succ_pos w), testBit_sfield,
      hj, Nat.lt_succ_iff]
    by_cases hjw : j ≤ w
    · simp [hjw, hplace hjw]
    · simp [hjw]

/-- A command word of FIELD with an exponent but no scaling is refused (log 9). -/
theorem raisesReservedBits_of_unscaled_exponent {w : Word} {p : BitVec 9} {wm1 : BitVec 6}
    {sg : Bool} {e : BitVec 8} (hw : decode w = .ok (.field p wm1 sg false e)) (he : e ≠ 0) :
    RaisesReservedBits w := by
  intro a b s
  rw [commandTurn, hw]
  exact if_pos ⟨rfl, he⟩

/-- Settles O15: the field's integer is that of its bits, its 64 bits are the field's and their
extension, scaling rounds it to nearest even, and the word's fields and reserved bits. -/
theorem fieldReadsMessageStream : Obligations.FieldReadsMessageStream := by
  refine ⟨fun s p wm1 sg hrange => ?_, fun s p wm1 sg e hrange => ?_,
    fun s p wm1 sg sc e hexp hrange => execField_out_of_range sg s hexp hrange,
    fun p wm1 sg sc e => ?_, fun w hop hlow => ?_⟩
  · exact ⟨_, execField_unscaled sg s hrange,
      fun j hj => getLsbD_wrapN_fieldInteger sg s.pw p.toNat wm1.toNat hj⟩
  · intro f v
    have hf : f = sfield s.pw p.toNat (wm1.toNat + 1) := (sfield_eq_sum _ _ _).symm
    have hv : v = fieldInteger sg (fieldWidth wm1) (sfield s.pw p.toNat (fieldWidth wm1)) := by
      rw [fieldWidth, fieldInteger_sfield, ← hf]
    rw [hv]
    exact ⟨_, execField_scaled sg s e hrange,
      scaleBits_exponentOf_roundsToNearestEven (natAbs_fieldInteger_le sg s.pw _ wm1.isLt) e,
      fun hzero => if_pos hzero⟩
  · intro w
    have hw : decode w = .ok (.field p wm1 sg sc e) := by
      simp only [w, ofNat_sum_eq_encode_field]; exact decodeInvertsEncode _
    refine ⟨fun _ => hw, fun hsc he => ?_⟩
    subst hsc
    exact raisesReservedBits_of_unscaled_exponent hw he
  · exact raisesReservedBits_of_row (decode_field (opcode_of_div hop)) hlow

end Sys2Proof.Machine
end

section
/-! FIELD over a word boundary as EXTRACT, EXTRACT, CONCAT, SEXT and SCALE (40_bitfield.md R129). -/

namespace Sys2Proof.Machine

/-! ## The results of the commands -/

section
variable (a b : Wide) (s : State)

theorem resultOf_of_succeeds {i : Instr} {t : State} {v : Wide}
    (h : exec i (s.presentOperands a b) = .next (t.succeedWith v)) : resultOf i a b s = v := by
  rw [resultOf, h]; rfl

theorem resultOf_extract {first last : BitVec 5} (h : first.toNat ≤ last.toNat) :
    resultOf (.extract first last) a b s =
      BitVec.ofNat 64 (extractBits (a.extractLsb' 0 32) first.toNat last.toNat) :=
  resultOf_of_succeeds a b s (execExtract_of_legal h _)

theorem resultOf_concat {lw : BitVec 7} (h : lw.toNat ≤ 63) :
    resultOf (.concat lw) a b s = concatBits a b lw.toNat :=
  resultOf_of_succeeds a b s (execConcat_of_legal h _)

theorem resultOf_sext {tw : BitVec 7} {cw : Container} (hpos : 1 ≤ tw.toNat)
    (hwidth : tw.toNat ≤ cw.width) :
    resultOf (.sext tw cw) a b s = signExtendBits cw a tw.toNat :=
  resultOf_of_succeeds a b s (execSext_of_legal hpos hwidth _)

theorem resultOf_scale (e : BitVec 8) (sg : Bool) :
    resultOf (.scale e sg) a b s = scaleBits (scaleOperand sg a) (exponentOf e) := rfl

section
variable {p : BitVec 9} {wm1 : BitVec 6} (hrange : p.toNat + fieldWidth wm1 ≤ 320) (sg : Bool)
include hrange

theorem resultOf_field_unscaled :
    resultOf (.field p wm1 sg false 0) a b s =
      wrapN 64 (fieldInteger sg (fieldWidth wm1) (sfield s.pw p.toNat (fieldWidth wm1))) :=
  resultOf_of_succeeds a b s (execField_unscaled sg _ hrange)

theorem resultOf_field_scaled (e : BitVec 8) :
    resultOf (.field p wm1 sg true e) a b s =
      scaleBits (fieldInteger sg (fieldWidth wm1) (sfield s.pw p.toNat (fieldWidth wm1)))
        (exponentOf e) :=
  resultOf_of_succeeds a b s (execField_scaled sg _ e hrange)

end

end

/-! ## A field over a word boundary -/

/-- The stream bit at position q of word k, counted from the word's last bit (R9). -/
theorem sbit_word_from_last (pw : Vector Word 10) (k : ℕ) {q : ℕ} (hq : q < 32) :
    sbit pw (32 * k + (31 - q)) = (payloadWord pw k).getLsbD q := by
  have hpos : 31 - (31 - q) = q := by omega
  rw [sbit_word_position pw k (by omega), msb0_eq_getLsbD _ (by omega), hpos]

/-- R129: the field is the last 32 - first bits of one word joined with the first l of the next. -/
theorem concat_extracts_eq_sfield (pw : Vector Word 10) (k : ℕ) {first l : ℕ} (hfirst : first ≤ 31)
    (hl : 1 ≤ l) (hl32 : l ≤ 32) :
    concatBits (BitVec.ofNat 64 (extractBits (payloadWord pw k) first 31))
        (BitVec.ofNat 64 (extractBits (payloadWord pw (k + 1)) 0 (l - 1))) l =
      BitVec.ofNat 64 (sfield pw (32 * k + first) (32 - first + l)) := by
  apply BitVec.eq_of_getLsbD_eq
  intro j hj
  rw [getLsbD_concatBits _ _ _ hj, getLsbD_extractBits _ le_rfl, getLsbD_extractBits _ (by omega),
    BitVec.getLsbD_ofNat, testBit_sfield]
  rcases Nat.lt_or_ge j l with hlow | hhigh
  · have hbit : 32 * k + first + (32 - first + l - 1 - j) =
        32 * (k + 1) + (31 - (31 - (l - 1) + j)) := by omega
    rw [hbit, sbit_word_from_last pw _ (by omega)]
    have hjl : j ≤ l - 1 := by omega
    have hjw : j < 32 - first + l := by omega
    simp [hj, hjl, hjw, Nat.not_le.mpr hlow]
  · have hjl : ¬ j ≤ l - 1 := by omega
    by_cases hjw : j < 32 - first + l
    · have hbit : 32 * k + first + (32 - first + l - 1 - j) = 32 * k + (31 - (j - l)) := by omega
      have hpart : j - l ≤ 31 - first := by omega
      rw [hbit, sbit_word_from_last pw _ (by omega)]
      simp [hj, hhigh, hjl, hjw, hpart]
    · have hpart : ¬ j - l ≤ 31 - first := by omega
      simp [hjl, hjw, hpart]

theorem extractLsb'_setWidth_word (w : Word) : (w.setWidth 64).extractLsb' 0 32 = w := by
  apply BitVec.eq_of_getLsbD_eq
  intro j hj
  have hj64 : j < 64 := by omega
  simp [hj, hj64]

/-- The parts that EXTRACT answers, joined by CONCAT, are the field's number. -/
theorem resultOf_concat_extracts (s : State) (k : ℕ) {first l : ℕ} (hfirst : first ≤ 31)
    (hl : 1 ≤ l) (hl32 : l ≤ 32) :
    resultOf (.concat (BitVec.ofNat 7 l))
        (resultOf (.extract (BitVec.ofNat 5 first) 31) ((payloadWord s.pw k).setWidth 64) 0 s)
        (resultOf (.extract 0 (BitVec.ofNat 5 (l - 1)))
          ((payloadWord s.pw (k + 1)).setWidth 64) 0 s) s =
      BitVec.ofNat 64 (sfield s.pw (32 * k + first) (32 - first + l)) := by
  have hfirst' : (BitVec.ofNat 5 first).toNat = first := Nat.mod_eq_of_lt (by omega)
  have hlast' : (BitVec.ofNat 5 (l - 1)).toNat = l - 1 := Nat.mod_eq_of_lt (by omega)
  have hl' : (BitVec.ofNat 7 l).toNat = l := Nat.mod_eq_of_lt (by omega)
  have h31 : (31 : BitVec 5).toNat = 31 := rfl
  rw [resultOf_concat _ _ _ (by omega), resultOf_extract _ _ _ (by omega),
    resultOf_extract _ _ _ (Nat.zero_le _), extractLsb'_setWidth_word, extractLsb'_setWidth_word,
    hl', hfirst', hlast', h31]
  exact concat_extracts_eq_sfield s.pw k hfirst hl hl32

/-- A signed number of at most 64 bits survives its wrapping to 64. -/
theorem scaleOperand_wrapN_sextN {n : ℕ} (hn : n ≤ 64) (v : ℕ) :
    scaleOperand true (wrapN 64 (sextN n v)) = sextN n v := by
  rw [scaleOperand_eq, if_pos rfl, sextN_eq_toInt, wrapN, ← BitVec.signExtend,
    BitVec.toInt_signExtend_of_le hn]

/-- Settles O16: the two extracted parts joined are the field, and each further command acts on it
as FIELD does. -/
theorem fieldIsCompositionOfPrimitives : Obligations.FieldIsCompositionOfPrimitives := by
  intro s k first l wm1 p e hk hfirst hl hl32 hwidth hp w high low joined extended
  have hw : w.toNat = fieldWidth wm1 := Nat.mod_eq_of_lt (by omega)
  have hw64 : fieldWidth wm1 ≤ 64 := wm1.isLt
  have hrange : p.toNat + fieldWidth wm1 ≤ 320 := by rw [fieldWidth]; omega
  have hjoined : joined = BitVec.ofNat 64 (sfield s.pw p.toNat (fieldWidth wm1)) := by
    rw [hp, fieldWidth, hwidth]
    exact resultOf_concat_extracts s k hfirst hl hl32
  have hjoinedNat : joined.toNat = sfield s.pw p.toNat (fieldWidth wm1) := by
    rw [hjoined]
    exact Nat.mod_eq_of_lt
      ((sfield_lt s.pw _ _).trans_le (Nat.pow_le_pow_right two_pos hw64))
  have hextended :
      extended = wrapN 64 (sextN (fieldWidth wm1) (sfield s.pw p.toNat (fieldWidth wm1))) := by
    rw [← hjoinedNat, ← hw]
    exact resultOf_sext joined 0 s (by rw [hw]; exact Nat.le_add_left _ _) (by rw [hw]; exact hw64)
  refine ⟨?_, ?_, ?_, ?_⟩
  · rw [resultOf_field_unscaled _ _ _ hrange, hjoined]
    exact BitVec.ofInt_natCast _ _
  · rw [resultOf_field_unscaled _ _ _ hrange, hextended]
    rfl
  · rw [resultOf_field_scaled _ _ _ hrange, resultOf_scale, scaleOperand_eq, hjoinedNat]
    rfl
  · rw [resultOf_field_scaled _ _ _ hrange, resultOf_scale, hextended,
      scaleOperand_wrapN_sextN hw64]
    rfl

end Sys2Proof.Machine
end

section
/-! The bit-serial register of the CRC-24Q unit (41_crc24q.md R150). -/

namespace Sys2Proof.Machine

theorem crcStep_of_eq {c : Crc} {bit : Bool} (h : c.getLsbD 23 = bit) : crcStep c bit = c <<< 1 :=
  if_neg fun hne => bne_iff_ne.mp hne h

theorem crcStep_of_ne {c : Crc} {bit : Bool} (h : c.getLsbD 23 ≠ bit) :
    crcStep c bit = (c <<< 1) ^^^ crcMask :=
  if_pos (bne_iff_ne.mpr h)

/-- The mask's bit 0 is 1 and the shift brings in a 0, so bit 0 says whether the mask was added. -/
theorem getLsbD_zero_crcStep (c : Crc) (bit : Bool) :
    (crcStep c bit).getLsbD 0 = (c.getLsbD 23 != bit) := by
  have hmask : crcMask.getLsbD 0 = true := by decide
  by_cases h : c.getLsbD 23 = bit
  · rw [crcStep_of_eq h, h, bne_self_eq_false]; simp
  · rw [crcStep_of_ne h, BitVec.getLsbD_xor, hmask, bne_iff_ne.mpr h]; simp

/-- A shift loses only bit 23. -/
theorem crc_eq_of_shiftLeft_one_eq {c d : Crc} (htop : c.getLsbD 23 = d.getLsbD 23)
    (hshift : c <<< 1 = d <<< 1) : c = d := by
  apply BitVec.eq_of_getLsbD_eq
  intro i hi
  rcases Nat.lt_or_ge i 23 with hlow | hhigh
  · have hbit := congrArg (BitVec.getLsbD · (i + 1)) hshift
    have hi1 : i + 1 < 24 := by omega
    simpa only [BitVec.getLsbD_shiftLeft, hi1, Nat.not_lt.mpr (Nat.le_add_left 1 i), decide_true,
      decide_false, Bool.not_false, Bool.true_and, Nat.add_sub_cancel] using hbit
  · obtain rfl : i = 23 := by omega
    exact htop

theorem crcStep_injective (bit : Bool) : Function.Injective (crcStep · bit) := by
  intro c d (h : crcStep c bit = crcStep d bit)
  have hlow : (c.getLsbD 23 != bit) = (d.getLsbD 23 != bit) := by
    rw [← getLsbD_zero_crcStep, ← getLsbD_zero_crcStep, h]
  have htop : c.getLsbD 23 = d.getLsbD 23 := Bool.bne_left_inj.mp hlow
  refine crc_eq_of_shiftLeft_one_eq htop ?_
  by_cases hc : c.getLsbD 23 = bit
  · rwa [crcStep_of_eq hc, crcStep_of_eq (htop ▸ hc)] at h
  · rw [crcStep_of_ne hc, crcStep_of_ne (htop ▸ hc)] at h
    exact (BitVec.xor_left_inj crcMask).mp h

theorem crcStep_bit_injective (c : Crc) : Function.Injective (crcStep c) := by
  intro b b' h
  have hlow : (c.getLsbD 23 != b) = (c.getLsbD 23 != b') := by
    rw [← getLsbD_zero_crcStep, ← getLsbD_zero_crcStep, h]
  exact Bool.bne_right_inj.mp hlow

theorem toNat_crcStep (c : Crc) (bit : Bool) :
    (crcStep c bit).toNat =
      if (decide (c.toNat / 2 ^ 23 % 2 = 1) != bit) = true
      then c.toNat * 2 % 2 ^ 24 ^^^ 0x864CFB else c.toNat * 2 % 2 ^ 24 := by
  have htop : c.getLsbD 23 = decide (c.toNat / 2 ^ 23 % 2 = 1) := Nat.testBit_eq_decide_div_mod_eq
  have hshift : (c <<< 1).toNat = c.toNat * 2 % 2 ^ 24 := by
    rw [BitVec.toNat_shiftLeft, Nat.shiftLeft_eq, Nat.pow_one]
  have hmask : crcMask.toNat = 0x864CFB := rfl
  rw [crcStep, htop]
  split
  · rw [BitVec.toNat_xor, hshift, hmask]
  · exact hshift

theorem crc24qOf_zero (pw : Vector Word 10) : crc24qOf pw 0 = 0 := rfl

theorem crc24qOf_succ (pw : Vector Word 10) (n : ℕ) :
    crc24qOf pw (n + 1) = crcStep (crc24qOf pw n) (sbit pw n) := rfl

end Sys2Proof.Machine
end

section
/-! The results of CRC24Q and CRCCHK (41_crc24q.md R153 to R156). -/

namespace Sys2Proof.Machine

/-! ## CRC24Q -/

theorem execCrc24q_of_legal {n : BitVec 9} (h : n.toNat ≤ 320) (s : State) :
    execCrc24q n s = .next (s.succeedWith (BitVec.ofNat 64 (crc24qOf s.pw n.toNat).toNat)) := by
  rw [execCrc24q, if_neg (Nat.not_lt.mpr h), BitVec.ofNat_toNat]

theorem ofNat_sum_eq_encode_crc24q (n : BitVec 9) :
    BitVec.ofNat 32 (0x6 * 2 ^ 28 + n.toNat * 2 ^ 19) = encode (.crc24q n) := by
  rw [ofNat_add_field _ (by omega)]
  rfl

/-- Settles O17: the sequence is that of the register's values as numbers; and the word's fields and
reserved bits. -/
theorem crc24qRunsBitSerialRegister : Obligations.Crc24qRunsBitSerialRegister := by
  refine ⟨fun s n h => ⟨fun i => (crc24qOf s.pw i).toNat, rfl, fun i _ => ?_,
    execCrc24q_of_legal h s⟩, fun s n h => if_pos h, fun n => ?_, fun w hop hlow => ?_⟩
  · exact toNat_crcStep _ _
  · rw [ofNat_sum_eq_encode_crc24q]; exact decodeInvertsEncode _
  · exact raisesReservedBits_of_row (decode_crc24q (opcode_of_div hop)) hlow

/-! ## CRCCHK and the embedded CRC -/

theorem toNat_embeddedCrc (pw : Vector Word 10) : (embeddedCrc pw).toNat = sfield pw 276 24 :=
  Nat.mod_eq_of_lt (sfield_lt pw 276 24)

/-- Bit j of the embedded CRC is the stream bit j places before its last, bit 299. -/
theorem getLsbD_embeddedCrc (pw : Vector Word 10) {j : ℕ} (hj : j < 24) :
    (embeddedCrc pw).getLsbD j = sbit pw (276 + (23 - j)) := by
  rw [embeddedCrc, BitVec.getLsbD_ofNat, crcCoverBits, crcWidth, testBit_sfield]
  simp [hj]

/-- The three parts of the result lie side by side below 2^49. -/
theorem toNat_crcCheckResult (pw : Vector Word 10) :
    (crcCheckResult pw).toNat =
      (if (computedCrc pw).toNat = (embeddedCrc pw).toNat then 1 else 0) * 2 ^ 48 +
        (embeddedCrc pw).toNat * 2 ^ 24 + (computedCrc pw).toNat := by
  have hcomputed := (computedCrc pw).isLt
  have hembedded := (embeddedCrc pw).isLt
  have hagree : (crcAgrees (computedCrc pw) (embeddedCrc pw)).toNat =
      if (computedCrc pw).toNat = (embeddedCrc pw).toNat then 1 else 0 := by
    simp [crcAgrees, Bool.toNat, BitVec.toNat_inj, Bool.cond_decide]
  rw [crcCheckResult, hagree, BitVec.toNat_ofNat]
  apply Nat.mod_eq_of_lt
  split <;> omega

/-- Three numbers side by side, the lower two of 24 bits, are cut apart again by division. -/
theorem div_mod_of_parts_sum (high : ℕ) {mid low : ℕ} (hmid : mid < 2 ^ 24) (hlow : low < 2 ^ 24) :
    (high * 2 ^ 48 + mid * 2 ^ 24 + low) % 2 ^ 24 = low ∧
      (high * 2 ^ 48 + mid * 2 ^ 24 + low) / 2 ^ 24 % 2 ^ 24 = mid ∧
      (high * 2 ^ 48 + mid * 2 ^ 24 + low) / 2 ^ 48 = high := by
  have hquotient : (high * 2 ^ 48 + mid * 2 ^ 24 + low) / 2 ^ 24 = high * 2 ^ 24 + mid := by omega
  refine ⟨by omega, by omega, ?_⟩
  calc (high * 2 ^ 48 + mid * 2 ^ 24 + low) / 2 ^ 48
      = (high * 2 ^ 48 + mid * 2 ^ 24 + low) / 2 ^ 24 / 2 ^ 24 := by
        rw [Nat.div_div_eq_div_mul, ← pow_add]
    _ = (high * 2 ^ 24 + mid) / 2 ^ 24 := congrArg (· / 2 ^ 24) hquotient
    _ = high := by
        rw [Nat.mul_comm, Nat.mul_add_div (by decide), Nat.div_eq_of_lt hmid, Nat.add_zero]

/-- Settles O18: the parts of the result are cut apart again by division; and the word's one
encoding and its reserved bits. -/
theorem crcchkReturnsMessageCheck : Obligations.CrcchkReturnsMessageCheck := by
  refine ⟨fun s => ?_, decodeInvertsEncode .crcchk, fun w hop hlow => ?_⟩
  · intro cc ce
    have hce : ce = (embeddedCrc s.pw).toNat :=
      ((toNat_embeddedCrc s.pw).trans (sfield_eq_sum s.pw 276 24)).symm
    refine ⟨crcCheckResult s.pw, rfl, ?_⟩
    rw [toNat_crcCheckResult, hce]
    exact div_mod_of_parts_sum _ (embeddedCrc s.pw).isLt (computedCrc s.pw).isLt
  · exact raisesReservedBits_of_row (decode_crcchk (opcode_of_div hop)) hlow

/-- Settles O26: stream bits 276 to 299 are a field over the boundary of words 8 and 9, so the last
12 bits of the one joined with the first 12 of the other (40_bitfield.md R129). -/
theorem embeddedCrcSpansLastTwoWords : Obligations.EmbeddedCrcSpansLastTwoWords := by
  intro pw
  have hjoined : concatBits (BitVec.ofNat 64 (extractBits pw[8] 20 31))
      (BitVec.ofNat 64 (extractBits pw[9] 0 11)) 12 = BitVec.ofNat 64 (sfield pw 276 24) :=
    concat_extracts_eq_sfield pw 8 (first := 20) (l := 12) (by decide) (by decide) (by decide)
  have hlow : (BitVec.ofNat 64 (extractBits pw[9] 0 11)).toNat = pw[9].toNat / 2 ^ 20 := by
    have hlt := pw[9].isLt
    simp only [extractBits, BitVec.toNat_ofNat]
    omega
  have hhigh : (BitVec.ofNat 64 (extractBits pw[8] 20 31)).toNat = pw[8].toNat % 2 ^ 12 := by
    simp only [extractBits, BitVec.toNat_ofNat]
    omega
  have hlowlt : pw[9].toNat / 2 ^ 20 < 2 ^ 12 := Nat.div_lt_of_lt_mul pw[9].isLt
  have hfield : sfield pw 276 24 < 2 ^ 64 := (sfield_lt pw 276 24).trans (by decide)
  calc (embeddedCrc pw).toNat
      = (BitVec.ofNat 64 (sfield pw 276 24)).toNat := by
        rw [toNat_embeddedCrc, BitVec.toNat_ofNat, Nat.mod_eq_of_lt hfield]
    _ = (pw[8].toNat % 2 ^ 12 * 2 ^ 12 + pw[9].toNat / 2 ^ 20) % 2 ^ 64 := by
        rw [← hjoined, toNat_concatBits_of_lt _ (hlow.trans_lt hlowlt), hhigh, hlow]
    _ = pw[8].toNat % 2 ^ 12 * 2 ^ 12 + pw[9].toNat / 2 ^ 20 := Nat.mod_eq_of_lt (by omega)

end Sys2Proof.Machine
end

section
/-! Two consequences of the injective step: the residue over message and CRC (41_crc24q.md R151) and
the inverted bit (R152). -/

namespace Sys2Proof.Machine

/-! ## The register over a stretch of the stream -/

/-- The register after the k stream bits from p on, starting from c. -/
def crcOver (pw : Vector Word 10) (p : ℕ) (c : Crc) : ℕ → Crc
  | 0 => c
  | k + 1 => crcStep (crcOver pw p c k) (sbit pw (p + k))

theorem crcOver_succ (pw : Vector Word 10) (p : ℕ) (c : Crc) (k : ℕ) :
    crcOver pw p c (k + 1) = crcStep (crcOver pw p c k) (sbit pw (p + k)) := rfl

theorem crc24qOf_add (pw : Vector Word 10) (p k : ℕ) :
    crc24qOf pw (p + k) = crcOver pw p (crc24qOf pw p) k := by
  induction k with
  | zero => rfl
  | succ k ih => rw [crcOver_succ, ← ih, Nat.add_succ, crc24qOf_succ]

theorem crcOver_injective (pw : Vector Word 10) (p k : ℕ) :
    Function.Injective (crcOver pw p · k) := by
  induction k with
  | zero => exact fun _ _ h => h
  | succ k ih => exact (crcStep_injective _).comp ih

/-- Over its own bits the embedded CRC meets the bit it drops in each step, so it only shifts. -/
theorem crcOver_embeddedCrc (pw : Vector Word 10) {k : ℕ} (hk : k ≤ 24) :
    crcOver pw 276 (embeddedCrc pw) k = embeddedCrc pw <<< k := by
  induction k with
  | zero => simp [crcOver]
  | succ k ih =>
    have hplace : 23 - (23 - k) = k := by omega
    have htop : (embeddedCrc pw <<< k).getLsbD 23 = sbit pw (276 + k) := by
      have hkept : ¬ 23 < k := by omega
      rw [BitVec.getLsbD_shiftLeft, getLsbD_embeddedCrc pw (by omega), hplace]
      simp [hkept]
    rw [crcOver_succ, ih (by omega), crcStep_of_eq htop, ← BitVec.shiftLeft_add]

/-- Settles O28: the register is 0 after the embedded CRC's bits when it holds the embedded CRC
before them, and, those steps being injective, only then. -/
theorem crcResidueZeroIffCheckHolds : Obligations.CrcResidueZeroIffCheckHolds := by
  intro pw
  have hresidue : crc24qOf pw 300 = crcOver pw 276 (computedCrc pw) 24 := crc24qOf_add pw 276 24
  have hzero : crcOver pw 276 (embeddedCrc pw) 24 = 0 := by
    rw [crcOver_embeddedCrc pw le_rfl, BitVec.shiftLeft_eq_zero le_rfl]; rfl
  rw [hresidue, ← hzero]
  exact (crcOver_injective pw 276 24).eq_iff

/-! ## An inverted bit -/

theorem msb0_xor_single_bit (w : Word) {p q : ℕ} (hp : p < 32) (hq : q < 32) :
    msb0 (w ^^^ (1#32 <<< (31 - p))) q = if q = p then !msb0 w q else msb0 w q := by
  have hplace : 31 - q = 31 - p ↔ q = p := by omega
  have hlt : 31 - q < 32 := by omega
  rw [msb0_eq_getLsbD _ hq, msb0_eq_getLsbD _ hq, BitVec.getLsbD_xor, ← BitVec.twoPow_eq,
    BitVec.getLsbD_twoPow]
  by_cases h : q = p
  · subst h; simp [hlt]
  · have hne : ¬ 31 - p = 31 - q := fun heq => h (hplace.mp heq.symm)
    simp [h, hne]

theorem payloadWord_set (pw : Vector Word 10) {k : ℕ} (hk : k < 10) (w : Word) (m : ℕ) :
    payloadWord (pw.set k w) m = if m = k then w else payloadWord pw m := by
  rw [payloadWord, payloadWord, Vector.getElem?_set]
  by_cases h : m = k
  · subst h; simp
  · have hne : ¬ k = m := fun heq => h heq.symm
    simp [h, hne]

/-- Inverting stream bit i inverts it and no other (R9). -/
theorem sbit_set_inverted (pw : Vector Word 10) {i : ℕ} (hi : i / 32 < 10) (j : ℕ) :
    sbit (pw.set (i / 32) (pw[i / 32] ^^^ (1#32 <<< (31 - i % 32)))) j =
      if j = i then !sbit pw j else sbit pw j := by
  have hword : pw[i / 32] = payloadWord pw (i / 32) := (payloadWord_fin pw ⟨i / 32, hi⟩).symm
  rw [sbit, sbit, payloadWord_set pw hi, hword]
  by_cases hk : j / 32 = i / 32
  · have hplace : j % 32 = i % 32 ↔ j = i := by omega
    rw [if_pos hk, msb0_xor_single_bit _ (by omega) (by omega), hk, if_congr hplace rfl rfl]
  · have hne : j ≠ i := fun h => hk (congrArg (· / 32) h)
    rw [if_neg hk, if_neg hne]

/-- Where two streams first differ their registers part, and equal bits never join them again. -/
theorem crc24qOf_ne_of_single_difference {pw pw' : Vector Word 10} {i n : ℕ} (hi : i < n)
    (hdiff : sbit pw' i ≠ sbit pw i) (hsame : ∀ j ≠ i, sbit pw' j = sbit pw j) :
    crc24qOf pw' n ≠ crc24qOf pw n := by
  have hbefore : ∀ k ≤ i, crc24qOf pw' k = crc24qOf pw k := by
    intro k
    induction k with
    | zero => exact fun _ => rfl
    | succ k ih =>
      intro hk
      rw [crc24qOf_succ, crc24qOf_succ, ih (by omega), hsame k (by omega)]
  induction n, hi using Nat.le_induction with
  | base =>
    rw [Nat.succ_eq_add_one, crc24qOf_succ, crc24qOf_succ, hbefore i le_rfl]
    exact (crcStep_bit_injective _).ne hdiff
  | succ n hn ih =>
    rw [crc24qOf_succ, crc24qOf_succ, hsame n (by omega)]
    exact (crcStep_injective _).ne ih

/-- Settles O29: the inverted bit is the one difference of two streams. -/
theorem checkedBitFlipChangesCrc : Obligations.CheckedBitFlipChangesCrc := by
  intro pw n i hi hn
  have hbit := sbit_set_inverted pw (i := i) (by omega)
  refine crc24qOf_ne_of_single_difference hi ?_ fun j hj => ?_
  · rw [hbit, if_pos rfl]; exact Bool.not_ne_self _
  · rw [hbit, if_neg hj]

end Sys2Proof.Machine
end

section
/-! The CRC as a polynomial remainder over GF(2) (41_crc24q.md R151). -/

namespace Sys2Proof.Machine

section
open Polynomial

/-- The register as a polynomial: bit i is the coefficient of x^i (R151). -/
noncomputable def registerPoly (c : Crc) : (ZMod 2)[X] :=
  ∑ i ∈ Finset.range 24, if c.getLsbD i then X ^ i else 0

/-- M(x) of the first n stream bits, the first one the coefficient of x^(n-1) (R151). -/
noncomputable def messagePoly (pw : Vector Word 10) (n : ℕ) : (ZMod 2)[X] :=
  ∑ i ∈ Finset.range n, if sbit pw i then X ^ (n - 1 - i) else 0

/-- The generator polynomial of CRC-24Q (R151). -/
noncomputable def crcGenerator : (ZMod 2)[X] :=
  X ^ 24 + X ^ 23 + X ^ 18 + X ^ 17 + X ^ 14 + X ^ 11 + X ^ 10 + X ^ 7 + X ^ 6 + X ^ 5 +
    X ^ 4 + X ^ 3 + X + 1

/-! ## The register and the message as polynomials -/

theorem registerPoly_zero : registerPoly 0 = 0 := by
  simp [registerPoly]

/-- Equal terms cancel over GF(2). -/
theorem ite_add_ite_eq_ite_bne (a b : Bool) (p : (ZMod 2)[X]) :
    ((if a then p else 0) + if b then p else 0) = if a != b then p else 0 := by
  cases a <;> cases b <;> simp [CharTwo.add_self_eq_zero]

theorem registerPoly_xor (c d : Crc) :
    registerPoly (c ^^^ d) = registerPoly c + registerPoly d := by
  rw [registerPoly, registerPoly, registerPoly, ← Finset.sum_add_distrib]
  refine Finset.sum_congr rfl fun i _ => ?_
  rw [BitVec.getLsbD_xor, ite_add_ite_eq_ite_bne]

/-- A shift multiplies by x, but for the term of the bit that leaves the register. -/
theorem X_mul_registerPoly (c : Crc) :
    X * registerPoly c = registerPoly (c <<< 1) + if c.getLsbD 23 then X ^ 24 else 0 := by
  have hshift : registerPoly (c <<< 1) =
      ∑ i ∈ Finset.range 23, if c.getLsbD i then X ^ (i + 1) else 0 := by
    rw [registerPoly, Finset.sum_range_succ']
    have hbit (i : ℕ) (hi : i ∈ Finset.range 23) : (c <<< 1).getLsbD (i + 1) = c.getLsbD i := by
      have hlt : i + 1 < 24 := Nat.succ_lt_succ (Finset.mem_range.mp hi)
      rw [BitVec.getLsbD_shiftLeft, decide_eq_true hlt]
      simp
    have hlow : (c <<< 1).getLsbD 0 = false := by simp
    rw [hlow, if_neg Bool.false_ne_true, add_zero]
    exact Finset.sum_congr rfl fun i hi => by rw [hbit i hi]
  rw [hshift, registerPoly, Finset.mul_sum, Finset.sum_range_succ]
  simp [mul_ite, pow_succ']

/-- The mask is the generator without its x^24 term (R150). -/
theorem registerPoly_crcMask : registerPoly crcMask + X ^ 24 = crcGenerator := by
  have hbits : registerPoly crcMask =
      1 + X + X ^ 3 + X ^ 4 + X ^ 5 + X ^ 6 + X ^ 7 + X ^ 10 + X ^ 11 + X ^ 14 + X ^ 17 + X ^ 18 +
        X ^ 23 := by
    simp [registerPoly, crcMask, Finset.sum_range_succ]
  rw [hbits, crcGenerator]
  ring

theorem degree_registerPoly_lt (c : Crc) : (registerPoly c).degree < 24 := by
  refine mem_degreeLT.mp (Submodule.sum_mem _ fun i hi => mem_degreeLT.mpr ?_)
  split
  · rw [degree_X_pow]
    exact_mod_cast Finset.mem_range.mp hi
  · rw [degree_zero]
    exact WithBot.bot_lt_coe 24

theorem degree_crcGenerator : crcGenerator.degree = 24 := by
  unfold crcGenerator
  compute_degree!

theorem monic_crcGenerator : crcGenerator.Monic := by
  unfold crcGenerator
  monicity!

/-- One more bit multiplies the message by x and is the new constant term. -/
theorem messagePoly_succ (pw : Vector Word 10) (n : ℕ) :
    messagePoly pw (n + 1) = X * messagePoly pw n + if sbit pw n then 1 else 0 := by
  rw [messagePoly, messagePoly, Finset.sum_range_succ, Finset.mul_sum]
  congr 1
  · refine Finset.sum_congr rfl fun i hi => ?_
    have hexp : n + 1 - 1 - i = n - 1 - i + 1 := by have := Finset.mem_range.mp hi; omega
    rw [hexp, pow_succ', mul_ite, mul_zero]
  · simp

/-! ## The register as a remainder -/

/-- One step multiplies by x, adds x^24 times the stream bit and takes away the generator when the
two leave a term x^24. -/
theorem registerPoly_crcStep (c : Crc) (bit : Bool) :
    registerPoly (crcStep c bit) + (if c.getLsbD 23 != bit then crcGenerator else 0) =
      X * registerPoly c + if bit then X ^ 24 else 0 := by
  rw [X_mul_registerPoly, add_assoc (registerPoly (c <<< 1)), ite_add_ite_eq_ite_bne]
  by_cases h : c.getLsbD 23 = bit
  · rw [crcStep_of_eq h, h, bne_self_eq_false]
    simp
  · have hmask : registerPoly crcMask + crcGenerator = X ^ 24 := by
      rw [← registerPoly_crcMask, CharTwo.add_cancel_left]
    rw [crcStep_of_ne h, registerPoly_xor, bne_iff_ne.mpr h, if_pos rfl, if_pos rfl, add_assoc,
      hmask]

/-- Induction on the stream bits: each step keeps the two sides congruent modulo the generator. -/
theorem registerPoly_crc24qOf (pw : Vector Word 10) (n : ℕ) :
    ∃ q, registerPoly (crc24qOf pw n) + crcGenerator * q = messagePoly pw n * X ^ 24 := by
  induction n with
  | zero => exact ⟨0, by rw [crc24qOf_zero, registerPoly_zero]; simp [messagePoly]⟩
  | succ n ih =>
    obtain ⟨q, hq⟩ := ih
    have hstep := registerPoly_crcStep (crc24qOf pw n) (sbit pw n)
    refine ⟨X * q + if (crc24qOf pw n).getLsbD 23 != sbit pw n then 1 else 0, ?_⟩
    calc registerPoly (crc24qOf pw (n + 1)) + crcGenerator * _
        = registerPoly (crcStep (crc24qOf pw n) (sbit pw n)) +
            (if (crc24qOf pw n).getLsbD 23 != sbit pw n then crcGenerator else 0) +
            X * (crcGenerator * q) := by
          rw [crc24qOf_succ, mul_add, mul_ite, mul_one, mul_zero]; ring
      _ = X * (registerPoly (crc24qOf pw n) + crcGenerator * q) +
            if sbit pw n then X ^ 24 else 0 := by
          rw [hstep]; ring
      _ = messagePoly pw (n + 1) * X ^ 24 := by
          rw [hq, messagePoly_succ, add_mul, ite_mul, one_mul, zero_mul, mul_assoc]

theorem registerPoly_eq_mod (pw : Vector Word 10) (n : ℕ) :
    registerPoly (crc24qOf pw n) = (messagePoly pw n * X ^ 24) %ₘ crcGenerator := by
  obtain ⟨q, hq⟩ := registerPoly_crc24qOf pw n
  have hdegree : (registerPoly (crc24qOf pw n)).degree < crcGenerator.degree :=
    (degree_registerPoly_lt _).trans_eq degree_crcGenerator.symm
  exact (div_modByMonic_unique q _ monic_crcGenerator ⟨hq, hdegree⟩).2.symm

end

/-- Settles O27: the three polynomials are those of R151. -/
theorem crcIsPolynomialRemainder : Obligations.CrcIsPolynomialRemainder :=
  fun pw n _ => registerPoly_eq_mod pw n

end Sys2Proof.Machine
end

section
/-! The envelope checksum over any bytes, and over a frame with one byte changed
(42_envelope_checksum.md R174, R175). -/

namespace Sys2Proof.Machine

/-! ## The closed form -/

/-- Accumulating bytes writes CKA and CKB alone (R170). -/
theorem foldl_ecuUpdate_frame (s : State) (bytes : List Byte) :
    bytes.foldl State.ecuUpdate s = { s with
      cka := (bytes.foldl State.ecuUpdate s).cka, ckb := (bytes.foldl State.ecuUpdate s).ckb } := by
  induction bytes generalizing s with
  | nil => rfl
  | cons x bytes ih => exact ih (s.ecuUpdate x)

/-- Accumulating the bytes at the offsets from k on carries the sums of R174 past them. -/
theorem foldl_ecuUpdate_sums {s : State} {b : Nat → Byte} {k : Nat} {bytes : List Byte}
    (h : 2 ≤ k) (hbytes : ∀ i (hi : i < bytes.length), bytes[i] = b (k + i))
    (ha : s.cka.toNat = ckaSum b k % 256) (hb : s.ckb.toNat = ckbSum b k % 256) :
    (bytes.foldl State.ecuUpdate s).cka.toNat = ckaSum b (k + bytes.length) % 256 ∧
      (bytes.foldl State.ecuUpdate s).ckb.toNat = ckbSum b (k + bytes.length) % 256 := by
  induction bytes generalizing s k with
  | nil => exact ⟨ha, hb⟩
  | cons x bytes ih =>
    have hx : x = b k := hbytes 0 (Nat.zero_lt_succ _)
    have hrest (i : Nat) (hi : i < bytes.length) : bytes[i] = b (k + 1 + i) := by
      rw [Nat.add_right_comm, Nat.add_assoc]
      exact hbytes (i + 1) (Nat.succ_lt_succ hi)
    obtain ⟨ha', hb'⟩ := ecuUpdate_sums h ha hb
    rw [← hx] at ha' hb'
    rw [List.length_cons, Nat.add_comm bytes.length, ← Nat.add_assoc]
    exact ih (by omega) hrest ha' hb'

/-- The sum over the offsets from 2 on, counted from 0. -/
theorem ckaSum_eq_sum_range (b : Nat → Byte) (n : Nat) :
    ckaSum b (2 + n) = ∑ i ∈ Finset.range n, (b (2 + i)).toNat := by
  rw [ckaSum, Finset.sum_Ico_eq_sum_range, Nat.add_sub_cancel_left]

/-- The weighted sum over the offsets from 2 on, counted from 0. -/
theorem ckbSum_eq_sum_range (b : Nat → Byte) (n : Nat) :
    ckbSum b (2 + n) = ∑ i ∈ Finset.range n, (n - i) * (b (2 + i)).toNat := by
  simp only [ckbSum, Finset.sum_Ico_eq_sum_range, Nat.add_sub_cancel_left, Nat.add_sub_add_left]

/-- A byte list as the covered bytes of a candidate, which begin at offset 2 (R171). -/
def coveredByte (bytes : List Byte) (o : Nat) : Byte := bytes.getD (o - 2) 0

theorem coveredByte_two_add (bytes : List Byte) (i : Nat) :
    coveredByte bytes (2 + i) = bytes.getD i 0 := by
  rw [coveredByte, Nat.add_sub_cancel_left]

/-- Settles O48: the bytes stand at the offsets from 2 on, where the sums of R174 begin. -/
theorem checksumClosedForm : Obligations.ChecksumClosedForm := by
  intro s bytes
  have hbytes (i : Nat) (hi : i < bytes.length) : bytes[i] = coveredByte bytes (2 + i) := by
    simp [coveredByte_two_add, hi]
  obtain ⟨ha, hb⟩ := foldl_ecuUpdate_sums (s := s.ecuClear) (Nat.le_refl 2) hbytes rfl rfl
  simp only [ckaSum_eq_sum_range, ckbSum_eq_sum_range, coveredByte_two_add] at ha hb
  exact ⟨foldl_ecuUpdate_frame s.ecuClear bytes, ha, hb⟩

/-! ## One changed byte -/

/-- The sum of the covered bytes, with the byte at one offset set apart. -/
theorem ckaSum_eq_add_sum_erase (b : Nat → Byte) {o k : Nat} (hlow : 2 ≤ o) (hhigh : o < k) :
    ckaSum b k = (b o).toNat + ∑ j ∈ (Finset.Ico 2 k).erase o, (b j).toNat :=
  (Finset.add_sum_erase _ (fun j => (b j).toNat) (Finset.mem_Ico.mpr ⟨hlow, hhigh⟩)).symm

/-- One changed byte always changes CKA: a byte is below 256, the modulus (R175). -/
theorem eq_of_ckaSum_mod_eq {b c : Nat → Byte} {o k : Nat} (hlow : 2 ≤ o) (hhigh : o < k)
    (hsame : ∀ j < k, j ≠ o → b j = c j) (hsum : ckaSum b k % 256 = ckaSum c k % 256) :
    b o = c o := by
  have hothers : ∑ j ∈ (Finset.Ico 2 k).erase o, (b j).toNat =
      ∑ j ∈ (Finset.Ico 2 k).erase o, (c j).toNat :=
    Finset.sum_congr rfl fun j hj => by
      obtain ⟨hne, hmem⟩ := Finset.mem_erase.mp hj
      rw [hsame j (Finset.mem_Ico.mp hmem).2 hne]
  rw [ckaSum_eq_add_sum_erase b hlow hhigh, ckaSum_eq_add_sum_erase c hlow hhigh, hothers] at hsum
  have hb := (b o).isLt
  have hc := (c o).isLt
  exact BitVec.eq_of_toNat_eq (by omega)

/-- Two frames that both pass the checksum, under any CK_MODE, do not differ in one covered byte
alone (R175). -/
theorem eq_of_checksumAccepts {p q : Params} {b c : Nat → Byte} {o : Nat} (hlow : 2 ≤ o)
    (hhigh : o ≤ 53) (hb : ChecksumAccepts p b) (hc : ChecksumAccepts q c)
    (hsame : ∀ j < 56, j ≠ o → b j = c j) : b o = c o := by
  obtain ⟨hbsum, -⟩ := hb
  obtain ⟨hcsum, -⟩ := hc
  have hck : b 54 = c 54 := hsame 54 (by decide) (by omega)
  refine eq_of_ckaSum_mod_eq hlow (Nat.lt_succ_of_le hhigh)
    (fun j hj => hsame j (by omega)) ?_
  rw [← hbsum, hck, hcsum]

/-! ## The only way into ACCEPT -/

/-- A byte of the header leads to no hold state (43_frame_sync.md R198 to R202). -/
theorem readHeader_not_hold {s : State} (hst : s.st = .readingHeader) (o : Nat) (x : Byte) :
    (s.readHeader o x).st.isHold = false := by
  unfold State.readHeader
  rcases headerTests_cases ((s.storeByte o x).ecuUpdate x) o with
    ⟨-, -, heq⟩ | ⟨-, -, heq⟩ | ⟨-, -, heq⟩ | ⟨-, -, heq⟩ | ⟨-, -, heq⟩ <;> rw [heq]
  case inr.inr.inr.inl =>
    rcases filterFailure_cases ((s.storeByte o x).ecuUpdate x) with ⟨-, hf⟩ | ⟨-, hf⟩ <;>
      rw [hf] <;> rfl
  all_goals simp [hst, FsuState.isHold]

/-- A step that reads a byte leads to no hold state (43_frame_sync.md R194 to R204). -/
theorem consume_not_hold {s : State} (hc : s.st.isConsuming = true) (x : Byte) :
    (s.consume x).st.isHold = false := by
  unfold State.consume
  split
  case h_1 hst =>
    rcases seekSync1_cases s.advance s.pos x with ⟨-, heq⟩ | ⟨-, heq⟩ <;> rw [heq] <;>
      simp [hst, FsuState.isHold]
  case h_2 =>
    rcases seekSync2_cases s.advance x with ⟨-, heq⟩ | ⟨-, heq⟩ <;> rw [heq] <;> rfl
  case h_3 hst => exact readHeader_not_hold (s := s.advance) hst _ x
  case h_4 hst =>
    rcases readPayload_cases s.advance (s.pos - s.start) x with
      ⟨-, heq⟩ | ⟨-, -, heq⟩ | ⟨-, heq⟩ <;> rw [heq] <;> simp [hst, FsuState.isHold]
  all_goals next hst => simp [hst, FsuState.isConsuming] at hc

/-- Only a VALIDATING step whose compare holds enters ACCEPT (43_frame_sync.md R205). -/
theorem validating_of_fsuStep_accept {s t : State} (hstep : fsuStep s = some t)
    (hacc : t.st = .accept) : s.st = .validating ∧ s.ckOk = true := by
  rcases fsuStep_cases hstep with ⟨hc, x, -, rfl⟩ | ⟨-, -, -, rfl⟩ | ⟨hst, rfl⟩
  · have hhold := consume_not_hold hc x
    rw [hacc] at hhold
    cases hhold
  · cases hacc
  · rcases validate_cases s with ⟨hok, -⟩ | ⟨-, heq⟩
    · exact ⟨hst, hok⟩
    · rw [heq] at hacc
      cases hacc

/-- The step of VALIDATING where the compare fails (42_envelope_checksum.md R173, 43_frame_sync.md
R205). -/
theorem fsuStep_validating_of_not_ckOk {s : State} (hst : s.st = .validating)
    (hok : s.ckOk = false) :
    fsuStep s = some { s.enterEvent .checksumMismatch s.start .reject with pos := s.start + 1 } := by
  simp [fsuStep, hst, State.validate, hok]

/-- Settles O49: a candidate whose compare holds is a valid frame, and two valid frames do not differ
in one covered byte alone. -/
theorem changedByteIsNotAccepted : Obligations.ChangedByteIsNotAccepted := by
  intro s frame o h hvalid hlow hhigh hsame hdiff
  have hmismatch (hst : s.st = .validating) : s.ckOk ≠ true := fun hok => by
    obtain ⟨-, -, -, -, -, -, hframe⟩ := hvalid
    obtain ⟨-, -, -, -, -, -, hcandidate⟩ := validFrameAt_of_ckOk h hst hok
    exact hdiff (eq_of_checksumAccepts hlow hhigh hcandidate hframe hsame)
  refine ⟨fun t hstep hacc => ?_, fun hst => ?_⟩
  · obtain ⟨hst, hok⟩ := validating_of_fsuStep_accept hstep hacc
    exact hmismatch hst hok
  · exact ⟨_, fsuStep_validating_of_not_ckOk hst (Bool.eq_false_iff.mpr (hmismatch hst)),
      rfl, rfl, rfl, rfl⟩

end Sys2Proof.Machine
end

section
/-! The FSU's steps, state by state: when it has one and what each writes (43_frame_sync.md R191 to
R206). -/

namespace Sys2Proof.Machine

/-! ## Enablement and the end mark -/

theorem FsuState.isConsuming_iff (st : FsuState) :
    st.isConsuming = true ↔ st = .seekingSync1 ∨ st = .seekingSync2 ∨ st = .readingHeader ∨
      st = .readingPayload := by
  cases st <;> simp [FsuState.isConsuming]

theorem consumingStep_of_byte {s : State} {x : Byte} (hx : s.stream[s.pos]? = some x) :
    s.consumingStep = some (s.consume x) := by
  simp [State.consumingStep, hx]

theorem consumingStep_of_past_end {s : State} (hlen : s.stream.length ≤ s.pos) :
    s.consumingStep =
      if s.ended then some (s.enterEvent .streamExhausted s.stream.length .exhausted)
      else none := by
  simp [State.consumingStep, hlen]

theorem consumingStep_isSome_iff (s : State) :
    s.consumingStep.isSome = true ↔ s.pos < s.stream.length ∨ s.ended = true := by
  by_cases hlen : s.pos < s.stream.length
  · simp [consumingStep_of_byte (List.getElem?_eq_getElem hlen), hlen]
  · simp [consumingStep_of_past_end (Nat.le_of_not_lt hlen), hlen]

theorem fsuStep_validating {s : State} (hst : s.st = .validating) :
    fsuStep s = some s.validate := by
  simp [fsuStep, hst]

/-- Settles O34: a consuming state steps as its byte or the end mark allows, VALIDATING always, a
hold state never. -/
theorem fsuStepEnabledExactly : Obligations.FsuStepEnabledExactly := by
  intro s
  rw [← FsuState.isConsuming_iff]
  by_cases hc : s.st.isConsuming = true
  · have hne : s.st ≠ .validating := fun hst => by simp [hst, FsuState.isConsuming] at hc
    simp only [fsuStep_consuming hc, consumingStep_isSome_iff, hc, hne, true_and, false_or]
  · cases hst : s.st <;> simp_all [fsuStep, FsuState.isConsuming]

/-- Settles O35: past the end no byte is left to read. -/
theorem endOfStreamPostsExhausted : Obligations.EndOfStreamPostsExhausted := by
  intro s hst hended hlen
  rw [fsuStep_consuming ((FsuState.isConsuming_iff _).mpr hst), consumingStep_of_past_end hlen,
    if_pos hended]
  rfl

/-! ## The step of each consuming state on a byte -/

section
variable {s : State} {x : Byte} (hx : s.stream[s.pos]? = some x)
include hx

theorem fsuStep_of_byte (hc : s.st.isConsuming = true) : fsuStep s = some (s.consume x) := by
  rw [fsuStep_consuming hc, consumingStep_of_byte hx]

theorem fsuStep_seekingSync1 (hst : s.st = .seekingSync1) :
    fsuStep s = some (s.advance.seekSync1 s.pos x) := by
  rw [fsuStep_of_byte hx (by rw [hst]; rfl)]
  simp only [State.consume, hst]

theorem fsuStep_seekingSync2 (hst : s.st = .seekingSync2) :
    fsuStep s = some (s.advance.seekSync2 x) := by
  rw [fsuStep_of_byte hx (by rw [hst]; rfl)]
  simp only [State.consume, hst]

theorem fsuStep_readingHeader (hst : s.st = .readingHeader) :
    fsuStep s = some (s.advance.readHeader (s.pos - s.start) x) := by
  rw [fsuStep_of_byte hx (by rw [hst]; rfl)]
  simp only [State.consume, hst]

theorem fsuStep_readingPayload (hst : s.st = .readingPayload) :
    fsuStep s = some (s.advance.readPayload (s.pos - s.start) x) := by
  rw [fsuStep_of_byte hx (by rw [hst]; rfl)]
  simp only [State.consume, hst]

end

/-- At an offset of the frame the buffer has the byte to write (10_state.md R27). -/
theorem storeByte_eq (s : State) {o : Nat} (h : o < 56) (x : Byte) :
    s.storeByte o x = { s with fb := s.fb.set o x h } := by
  have hfb : s.fb.setIfInBounds o x = s.fb.set o x h :=
    Vector.ext fun j hj => by rw [Vector.getElem_setIfInBounds hj, Vector.getElem_set]
  rw [State.storeByte, hfb]

/-- Settles O36: a byte that matches is stored and moves on, another one is passed over or
rewinds. -/
theorem syncSearchSteps : Obligations.SyncSearchSteps := by
  intro s x hx
  refine ⟨fun hst hsync => ?_, fun hst hsync => ?_, fun hst hsync => ?_, fun hst hsync => ?_⟩
  · rw [fsuStep_seekingSync1 hx hst, State.seekSync1, if_pos (show x = sync1 from hsync),
      storeByte_eq _ (show 0 < 56 by decide)]
    rfl
  · rw [fsuStep_seekingSync1 hx hst, State.seekSync1, if_neg (show x ≠ sync1 from hsync)]; rfl
  · rw [fsuStep_seekingSync2 hx hst, State.seekSync2, if_pos (show x = sync2 from hsync),
      storeByte_eq _ (show 1 < 56 by decide)]
    rfl
  · rw [fsuStep_seekingSync2 hx hst, State.seekSync2, if_neg (show x ≠ sync2 from hsync)]; rfl

/-! ## The tests of READING_HEADER -/

theorem headerTests_other (s : State) {o : Nat} (h3 : o ≠ 3) (h13 : o ≠ 13) :
    s.headerTests o = s := by
  rw [State.headerTests, if_neg h3, if_neg h13]

theorem headerTests_three (s : State) :
    s.headerTests 3 = if classIdMatches s.fb then s else s.rewind := rfl

theorem headerTests_thirteen (s : State) :
    s.headerTests 13 =
      if filterPasses s.params s.fb then s.goto .readingPayload else s.filterFailure := rfl

theorem filterFailure_rescan {s : State} (h : s.params.filterPolicy = .rescan) :
    s.filterFailure = s.rewind := by
  simp only [State.filterFailure, h]

theorem filterFailure_skipDeclared {s : State} (h : s.params.filterPolicy = .skipDeclared) :
    s.filterFailure = s.skipDeclared (declaredLength s.fb) := by
  simp only [State.filterFailure, h]

/-- Settles O37: the byte is stored and accumulated, then the test that is due at its offset
decides. -/
theorem headerByteStep : Obligations.HeaderByteStep := by
  intro s x hst hx hlow hhigh o fb byte len read rewound
  have hstep : fsuStep s = some (read.headerTests o) := fsuStep_readingHeader hx hst
  have hclass : classIdMatches read.fb = true ↔ byte 2 = 0x02 ∧ byte 3 = 0x13 :=
    classIdMatches_iff fb
  have hfilter : filterPasses read.params read.fb = true ↔ FilterAccepts s.params byte :=
    filterPasses_iff s.params fb
  have hoff : o < 56 := by simp only [o]; omega
  rw [hstep]
  refine ⟨frameByte_setIfInBounds_self s.fb o x hoff, fun h3 h13 => ?_, fun h3 hmatch => ?_,
    fun h3 hmatch => ?_, fun h13 hpass => ?_, fun h13 hfail hpolicy => ?_,
    fun h13 hfail hpolicy => ?_⟩
  · rw [headerTests_other read h3 h13]
  · rw [h3, headerTests_three, if_pos (hclass.mpr hmatch)]
  · rw [h3, headerTests_three, if_neg (mt hclass.mp hmatch)]; rfl
  · rw [h13, headerTests_thirteen, if_pos (hfilter.mpr hpass)]; rfl
  · rw [h13, headerTests_thirteen, if_neg (mt hfilter.mp hfail),
      filterFailure_rescan (s := read) hpolicy]; rfl
  · rw [h13, headerTests_thirteen, if_neg (mt hfilter.mp hfail),
      filterFailure_skipDeclared (s := read) hpolicy]; rfl

/-! ## READING_PAYLOAD -/

theorem readPayload_word_byte (s : State) {o : Nat} (x : Byte) (h : o ≤ 53) :
    s.readPayload o x = (s.storeByte o x).ecuUpdate x := by
  have h55 : o ≠ 55 := by omega
  simp [State.readPayload, h, h55]

theorem readPayload_ckA (s : State) (x : Byte) : s.readPayload 54 x = s.storeByte 54 x := rfl

theorem readPayload_ckB (s : State) (x : Byte) :
    s.readPayload 55 x = (s.storeByte 55 x).goto .validating := rfl

/-- Settles O38: a byte of the words, CK_A or CK_B, by its offset. -/
theorem payloadByteStep : Obligations.PayloadByteStep := by
  intro s x hst hx hlow hhigh o read
  have hstep : fsuStep s = some (s.advance.readPayload o x) := fsuStep_readingPayload hx hst
  have hoff : o < 56 := by simp only [o]; omega
  rw [hstep]
  refine ⟨frameByte_setIfInBounds_self s.fb o x hoff, fun h53 => ?_, fun h54 => ?_, fun h55 => ?_⟩
  · rw [readPayload_word_byte _ x h53]; rfl
  · simp only [read]
    rw [h54, readPayload_ckA]; rfl
  · have hpos : s.pos + 1 = s.start + 56 := by simp only [o] at h55; omega
    simp only [read]
    rw [h55, readPayload_ckB, ← hpos]; rfl

/-! ## VALIDATING -/

theorem fsuStep_validating_of_ckOk {s : State} (hst : s.st = .validating) (hok : s.ckOk = true) :
    fsuStep s = some (s.acceptLoad.enterEvent .frameAccepted s.start .accept) := by
  rw [fsuStep_validating hst, State.validate, if_pos hok]

theorem wireWords_getElem (order : WordWireOrder) (fb : Vector Byte 56) (k : Fin 10) :
    (wireWords order fb)[k] = wireWord order fb k := by
  simp [wireWords]

/-- Four bytes side by side, the first the most significant. -/
theorem toNat_ofNat_four_bytes (b3 b2 b1 b0 : Byte) :
    (BitVec.ofNat 32 (b3.toNat * 2 ^ 24 + b2.toNat * 2 ^ 16 + b1.toNat * 2 ^ 8 + b0.toNat)).toNat =
      b3.toNat * 2 ^ 24 + b2.toNat * 2 ^ 16 + b1.toNat * 2 ^ 8 + b0.toNat :=
  (BitVec.toNat_ofNat _ _).trans (Nat.mod_eq_of_lt (by omega))

/-- Settles O39: the load is `acceptLoad`, whose words and CRC registers are cut out of the
buffer. -/
theorem validatingStepDecides : Obligations.ValidatingStepDecides := by
  intro s hst byte agrees wire
  refine ⟨fun hagrees => ?_, fun hdiffers => ?_⟩
  · refine ⟨outHeader s.fb, wireWords s.params.wordWireOrder s.fb, _,
      fsuStep_validating_of_ckOk hst ((ckOk_iff s).mpr hagrees), outHeader_headerOfFrame s.fb,
      (toNat_embeddedCrc _).trans (sfield_eq_sum _ _ _), fun k horder => ?_, fun k horder => ?_⟩
    all_goals
      rw [wireWords_getElem, horder]
      exact toNat_ofNat_four_bytes _ _ _ _
  · exact fsuStep_validating_of_not_ckOk hst (Bool.eq_false_iff.mpr (mt (ckOk_iff s).mp hdiffers))

/-! ## What every step leaves -/

/-- Settles O40: a byte leads to no hold state and touches no event; the exhaustion posts and loads
nothing; VALIDATING enters a hold state, and loads where that is ACCEPT. -/
theorem fsuStepsLeaveHostRegisters : Obligations.FsuStepsLeaveHostRegisters := by
  intro s t hstep
  rcases fsuStep_cases hstep with ⟨hc, x, -, rfl⟩ | ⟨-, -, -, rfl⟩ | ⟨-, rfl⟩
  · have hrun := consume_not_hold hc x
    rw [hrun, consume_frame s x]
    simp
  · simp [FsuState.isHold, heldEvent]
  · rcases validate_cases s with ⟨-, heq⟩ | ⟨-, heq⟩ <;> rw [heq] <;>
      simp [FsuState.isHold, heldEvent]

end Sys2Proof.Machine
end

section
/-! While a frame event is pending, no turn but a reset and no command but ACK touches the accepted
frame (20_memory.md R72, 43_frame_sync.md R197). -/

namespace Sys2Proof.Machine

/-- From s to t nothing changed but PW, RES, CERR, the stream and what stands outside the block. -/
def HoldsFrame (s t : State) : Prop :=
  t = { s with
    pw := t.pw, res := t.res, cerr := t.cerr, stream := t.stream, ended := t.ended,
    portA := t.portA, portB := t.portB, inputs := t.inputs }

/-- The one word of ACK is its table row's value (30_encoding.md R99). -/
theorem eq_ack_word_of_decode {cmd : Word} (h : decode cmd = .ok .ack) : cmd = 0x90000000 :=
  (acceptedWordIsItsEncoding cmd .ack h).symm.trans (by decide)

theorem exec_holdsFrame {i : Instr} {s t : State} (hack : i ≠ .ack) (hstep : exec i s = .next t) :
    HoldsFrame s t ∧ ((∀ k, i ≠ .loadw k) → t.pw = s.pw) := by
  obtain ⟨hframe, hpw, hkept⟩ := commandsWriteOnlyTheirRegisters i s t hstep
  obtain ⟨hst, hev⟩ := hkept hack
  rw [hst, hev] at hframe
  exact ⟨by rw [hframe]; rfl, hpw⟩

theorem commandTurn_holdsFrame {cmd : Word} {a b : Wide} {s t : State} (hack : cmd ≠ 0x90000000)
    (hstep : commandTurn cmd a b s = .next t) :
    HoldsFrame s t ∧ ((∀ k, decode cmd ≠ .ok (.loadw k)) → t.pw = s.pw) := by
  unfold commandTurn at hstep
  split at hstep
  · next i hdec =>
    have hi : i ≠ .ack := fun heq => hack (eq_ack_word_of_decode (heq ▸ hdec))
    obtain ⟨hsame, hpw⟩ := exec_holdsFrame hi hstep
    exact ⟨by rw [hsame]; rfl, fun hne => hpw fun k heq => hne k (heq ▸ hdec)⟩
  · cases hstep
    exact ⟨rfl, fun _ => rfl⟩

theorem deliverTurn_holdsFrame {bytes : List Byte} {s t : State}
    (hstep : deliverTurn bytes s = .next t) : HoldsFrame s t ∧ t.pw = s.pw := by
  unfold deliverTurn at hstep
  split at hstep <;> cases hstep <;> exact ⟨rfl, rfl⟩

theorem fsuTurn_of_hold {s t : State} (hhold : s.st.isHold = true) (hstep : fsuTurn s = .next t) :
    t = s := by
  rw [fsuTurn, fsuStep_hold hhold] at hstep
  cases hstep
  rfl

theorem turnOf_holdsFrame {i : Input} {s t : State} (hhold : s.st.isHold = true)
    (hreset : ∀ rebind, i ≠ .reset rebind) (hack : ∀ a b, i ≠ .command 0x90000000 a b)
    (hstep : turnOf i s = .next t) :
    HoldsFrame s t ∧
      ((∀ cmd a b k, i = .command cmd a b → decode cmd ≠ .ok (.loadw k)) → t.pw = s.pw) := by
  cases i with
  | fsu =>
    rw [fsuTurn_of_hold hhold hstep]
    exact ⟨rfl, fun _ => rfl⟩
  | command cmd a b =>
    have hne : cmd ≠ 0x90000000 := fun heq => hack a b (by rw [heq])
    obtain ⟨hsame, hpw⟩ := commandTurn_holdsFrame hne hstep
    exact ⟨hsame, fun hload => hpw fun k => hload cmd a b k rfl⟩
  | deliver bytes =>
    obtain ⟨hsame, hpw⟩ := deliverTurn_holdsFrame hstep
    exact ⟨hsame, fun _ => hpw⟩
  | endOfStream =>
    cases hstep
    exact ⟨rfl, fun _ => rfl⟩
  | reset rebind => exact absurd rfl (hreset rebind)

/-- An input other than an FSU turn that is due stands at the head of the list (log 1). -/
theorem inputs_eq_cons_of_headD {s : State} {i : Input} (h : s.inputs.headD .fsu = i)
    (hne : i ≠ .fsu) : s.inputs = i :: s.inputs.tail := by
  cases hin : s.inputs with
  | nil => rw [hin] at h; exact absurd h.symm hne
  | cons j rest => rw [hin] at h; rw [← h]; rfl

/-- Settles O52: in a hold state the FSU has no step, the producer writes the stream alone, and a
command other than ACK keeps the frame. -/
theorem heldFrameIsStable : Obligations.HeldFrameIsStable := by
  intro s t hst hreset hack hstep
  have hhold : s.st.isHold = true := by rcases hst with hst | hst <;> rw [hst] <;> rfl
  rw [step_eq_turnOf] at hstep
  obtain ⟨hsame, hpw⟩ := turnOf_holdsFrame (s := s.setInputs s.inputs.tail) hhold
    (fun rebind hdue => hreset rebind _ (inputs_eq_cons_of_headD hdue nofun))
    (fun a b hdue => hack a b _ (inputs_eq_cons_of_headD hdue nofun)) hstep
  rw [hsame]
  exact ⟨rfl, rfl, rfl, rfl, rfl, rfl, rfl, rfl, rfl, fun hload =>
    hpw fun cmd a b k hdue => hload cmd a b _ k (inputs_eq_cons_of_headD hdue nofun)⟩

end Sys2Proof.Machine
end

section
/-! How each FSU step moves the search for frames along the stream (43_frame_sync.md R190 to R205),
and the count of steps that are left (R212). -/

namespace Sys2Proof.Machine

/-- The lowest index that the search has not yet ruled out as the start of a frame: that of the
candidate under way, or the cursor. -/
def searchFrom (s : State) : Nat := if s.st.inCandidate then s.start else s.pos

theorem searchFrom_of_inCandidate {s : State} (h : s.st.inCandidate = true) :
    searchFrom s = s.start := if_pos h

theorem searchFrom_of_not_inCandidate {s : State} (h : s.st.inCandidate = false) :
    searchFrom s = s.pos := by rw [searchFrom, h]; rfl

/-- What an FSU step from s to t does to the search. -/
inductive ScanProgress (s t : State) : Prop
  /-- The candidate's next byte is read, or its first. -/
  | readOn (hst : t.st.inCandidate = true) (hlen : s.pos < s.stream.length)
      (hstart : t.start = searchFrom s) (hpos : t.pos = s.pos + 1)
  /-- The index is no longer tried: under RESCAN only if no frame starts there, and the next index
  follows (R203). -/
  | giveUp (hst : t.st = .seekingSync1 ∨ t.st = .reject) (hlen : searchFrom s < s.stream.length)
      (hpos : searchFrom s + 1 ≤ t.pos)
      (hrescan : s.params.filterPolicy = .rescan →
        t.pos = searchFrom s + 1 ∧ ¬ValidFrameAt s.params s.stream (searchFrom s))
  /-- The frame at the index is accepted (R205). -/
  | accept (hst : t.st = .accept) (hlen : searchFrom s < s.stream.length)
      (hev : t.ev = .frameAccepted) (hevPos : t.evPos = searchFrom s)
      (hpos : t.pos = searchFrom s + 56)
  /-- The end mark is met (R192). -/
  | exhaust (hst : t.st = .exhausted) (hcons : s.st.isConsuming = true)
      (hlen : s.stream.length ≤ s.pos)

/-! ## What a valid frame's bytes decide -/

section
variable {p : Params} {stream : List Byte} {f : Nat} (h : ValidFrameAt p stream f)
include h

theorem ValidFrameAt.length_le : f + 56 ≤ stream.length := by
  obtain ⟨hlen, -⟩ := h
  exact hlen

theorem ValidFrameAt.first_byte : frameAt stream f 0 = sync1 := by
  obtain ⟨-, h0, -⟩ := h
  exact h0

theorem ValidFrameAt.second_byte : frameAt stream f 1 = sync2 := by
  obtain ⟨-, -, h1, -⟩ := h
  exact h1

theorem ValidFrameAt.passes_classId {fb : Vector Byte 56}
    (hfb : ∀ o, o < 4 → frameByte fb o = frameAt stream f o) : classIdMatches fb = true := by
  obtain ⟨-, -, -, h2, h3, -⟩ := h
  rw [classIdMatches_iff, hfb 2 (by decide), hfb 3 (by decide)]
  exact ⟨h2, h3⟩

theorem ValidFrameAt.passes_filter {fb : Vector Byte 56}
    (hfb : ∀ o, o < 14 → frameByte fb o = frameAt stream f o) : filterPasses p fb = true := by
  obtain ⟨-, -, -, -, -, hfilter, -⟩ := h
  exact (filterPasses_iff p fb).mpr ((filterAccepts_congr hfb).mpr hfilter)

end

/-- The compare of VALIDATING holds for a valid frame (42_envelope_checksum.md R173, R174). -/
theorem ckOk_of_validFrameAt {s : State} (h : FsuInv s) (hst : s.st = .validating)
    (hvalid : ValidFrameAt s.params s.stream s.start) : s.ckOk = true := by
  have hcand : s.st.inCandidate = true := by rw [hst]; rfl
  have hpos := h.pos_of_validating hst
  have hall : min (s.pos - s.start) 54 = 54 := by omega
  obtain ⟨hcka, hckb⟩ := h.checksum (by rw [hst]; rfl)
  rw [hall] at hcka hckb
  obtain ⟨-, -, -, -, -, -, h54, h55⟩ := hvalid
  rw [ckOk_iff, h.buffer hcand 54 (by omega), h.buffer hcand 55 (by omega)]
  exact ⟨BitVec.eq_of_toNat_eq (h54.trans hcka.symm),
    fun hstrict => BitVec.eq_of_toNat_eq ((h55 hstrict).trans hckb.symm)⟩

/-! ## The progress of each step -/

section
variable {s : State} {x : Byte} (h : FsuInv s) (hx : s.stream[s.pos]? = some x)
include hx

theorem seekSync1_scanProgress (hst : s.st = .seekingSync1) :
    ScanProgress s (s.advance.seekSync1 s.pos x) := by
  have hlen := lt_length_of_getElem? hx
  have hfrom : searchFrom s = s.pos := searchFrom_of_not_inCandidate (by rw [hst]; rfl)
  rcases seekSync1_cases s.advance s.pos x with ⟨-, heq⟩ | ⟨hne, heq⟩ <;> rw [heq]
  · exact .readOn rfl hlen hfrom.symm rfl
  · refine .giveUp (.inl hst) (by rw [hfrom]; exact hlen) (by rw [hfrom]; rfl) fun _ => ?_
    rw [hfrom]
    exact ⟨rfl, fun hvalid => hne ((frameAt_of_getElem? hx).symm.trans hvalid.first_byte)⟩

theorem readPayload_scanProgress (hst : s.st = .readingPayload) :
    ScanProgress s (s.advance.readPayload (s.pos - s.start) x) := by
  have hlen := lt_length_of_getElem? hx
  have hcand : s.st.inCandidate = true := by rw [hst]; rfl
  have hfrom := searchFrom_of_inCandidate hcand
  rcases readPayload_cases s.advance (s.pos - s.start) x with ⟨-, heq⟩ | ⟨-, -, heq⟩ | ⟨-, heq⟩ <;>
    rw [heq]
  · exact .readOn hcand hlen hfrom.symm rfl
  · exact .readOn hcand hlen hfrom.symm rfl
  · exact .readOn rfl hlen hfrom.symm rfl

include h

theorem seekSync2_scanProgress (hst : s.st = .seekingSync2) :
    ScanProgress s (s.advance.seekSync2 x) := by
  have hlen := lt_length_of_getElem? hx
  have hpos := h.pos_of_seekingSync2 hst
  have hfrom : searchFrom s = s.start := searchFrom_of_inCandidate (by rw [hst]; rfl)
  have hbyte : frameAt s.stream s.start 1 = x := frameAt_of_getElem? (hpos ▸ hx)
  rcases seekSync2_cases s.advance x with ⟨-, heq⟩ | ⟨hne, heq⟩ <;> rw [heq]
  · exact .readOn rfl hlen hfrom.symm rfl
  · refine .giveUp (.inl rfl) (by omega) (by rw [hfrom]; rfl) fun _ => ?_
    rw [hfrom]
    exact ⟨rfl, fun hvalid => hne (hbyte.symm.trans hvalid.second_byte)⟩

theorem readHeader_scanProgress (hst : s.st = .readingHeader) :
    ScanProgress s (s.advance.readHeader (s.pos - s.start) x) := by
  have hlen := lt_length_of_getElem? hx
  have hcand : s.st.inCandidate = true := by rw [hst]; rfl
  have hfrom := searchFrom_of_inCandidate hcand
  obtain ⟨hlow, hhigh⟩ := h.pos_of_readingHeader hst
  have hbuffer (o : Nat) (ho : o < s.pos - s.start + 1) :
      frameByte (s.fb.setIfInBounds (s.pos - s.start) x) o = frameAt s.stream s.start o :=
    frameAt_of_read hx (start := s.start) (by omega) ▸
      buffer_of_storeByte (h.buffer hcand) (by omega) o ho
  unfold State.readHeader
  rcases headerTests_cases ((s.advance.storeByte (s.pos - s.start) x).ecuUpdate x)
    (s.pos - s.start) with ⟨-, -, heq⟩ | ⟨ho, hfail, heq⟩ | ⟨-, -, heq⟩ | ⟨ho, hfail, heq⟩ |
      ⟨-, -, heq⟩ <;> rw [heq]
  · exact .readOn hcand hlen hfrom.symm rfl
  · refine .giveUp (.inl rfl) (by omega) (by rw [hfrom]; rfl) fun _ => ?_
    rw [hfrom]
    exact ⟨rfl, fun hvalid => Bool.eq_false_iff.mp hfail
      (hvalid.passes_classId fun o _ => hbuffer o (by omega))⟩
  · exact .readOn rfl hlen hfrom.symm rfl
  · rcases filterFailure_cases ((s.advance.storeByte (s.pos - s.start) x).ecuUpdate x) with
      ⟨-, hf⟩ | ⟨hskip, hf⟩ <;> rw [hf]
    · refine .giveUp (.inl rfl) (by omega) (by rw [hfrom]; rfl) fun _ => ?_
      rw [hfrom]
      exact ⟨rfl, fun hvalid => Bool.eq_false_iff.mp hfail
        (hvalid.passes_filter fun o _ => hbuffer o (by omega))⟩
    · refine .giveUp (.inl rfl) (by omega) (by rw [hfrom]; simp; omega) fun hrescan => ?_
      cases hrescan.symm.trans hskip
  · exact .readOn hcand hlen hfrom.symm rfl

theorem consume_scanProgress (hc : s.st.isConsuming = true) : ScanProgress s (s.consume x) := by
  unfold State.consume
  split
  case h_1 hst => exact seekSync1_scanProgress hx hst
  case h_2 hst => exact seekSync2_scanProgress h hx hst
  case h_3 hst => exact readHeader_scanProgress h hx hst
  case h_4 hst => exact readPayload_scanProgress hx hst
  all_goals next hst => simp [hst, FsuState.isConsuming] at hc

end

theorem validate_scanProgress {s : State} (h : FsuInv s) (hst : s.st = .validating) :
    ScanProgress s s.validate := by
  have hcand : s.st.inCandidate = true := by rw [hst]; rfl
  have hfrom := searchFrom_of_inCandidate hcand
  have hpos := h.pos_of_validating hst
  have hlen := h.delivered hcand
  rcases validate_cases s with ⟨-, heq⟩ | ⟨hfail, heq⟩ <;> rw [heq]
  · exact .accept rfl (by omega) rfl hfrom.symm (by rw [hfrom]; exact hpos)
  · refine .giveUp (.inr rfl) (by omega) (by rw [hfrom]) fun _ => ?_
    rw [hfrom]
    exact ⟨rfl, fun hvalid => Bool.eq_false_iff.mp hfail (ckOk_of_validFrameAt h hst hvalid)⟩

theorem fsuStep_scanProgress {s t : State} (h : FsuInv s) (hstep : fsuStep s = some t) :
    ScanProgress s t := by
  rcases fsuStep_cases hstep with ⟨hc, x, hx, rfl⟩ | ⟨hc, hlen, -, rfl⟩ | ⟨hst, rfl⟩
  · exact consume_scanProgress h hx hc
  · exact .exhaust rfl hc hlen
  · exact validate_scanProgress h hst

/-! ## The budget -/

theorem FsuState.inCandidate_or_seekingSync1 {st : FsuState} (h : st.isHold = false) :
    st.inCandidate = true ∨ st = .seekingSync1 := by
  cases st <;> simp_all [FsuState.isHold, FsuState.inCandidate]

theorem fsuBudget_of_inCandidate {s : State} (h : s.st.inCandidate = true) :
    fsuBudget s = 57 * (s.stream.length - (s.start + 1)) + (s.start + 57 - s.pos) + 1 := by
  cases hst : s.st <;> simp_all [FsuState.inCandidate, fsuBudget]

theorem fsuBudget_between_candidates {s : State}
    (h : s.st = .seekingSync1 ∨ s.st = .reject ∨ s.st = .accept) :
    fsuBudget s = 57 * (s.stream.length - s.pos) + 1 := by
  rcases h with h | h | h <;> simp only [fsuBudget, h]

theorem fsuBudget_eq_zero_iff (s : State) : fsuBudget s = 0 ↔ s.st = .exhausted := by
  cases hst : s.st <;> simp [fsuBudget, hst]

theorem isHold_of_fsuStep {s t : State} (hstep : fsuStep s = some t) : s.st.isHold = false := by
  by_contra hhold
  rw [fsuStep_hold (Bool.not_eq_false _ ▸ hhold)] at hstep
  cases hstep

/-- The search has steps left for every index behind the one it is at, and for this one. -/
theorem lt_fsuBudget {s : State} (h : FsuInv s) (hrun : s.st.isHold = false)
    (hlen : searchFrom s < s.stream.length) :
    57 * (s.stream.length - (searchFrom s + 1)) + 1 < fsuBudget s := by
  rcases FsuState.inCandidate_or_seekingSync1 hrun with hcand | hst
  · obtain ⟨-, hhigh⟩ := cursor_of_inCandidate h.cursor hcand
    rw [fsuBudget_of_inCandidate hcand, searchFrom_of_inCandidate hcand]
    omega
  · have hfrom : searchFrom s = s.pos := searchFrom_of_not_inCandidate (by rw [hst]; rfl)
    rw [fsuBudget_between_candidates (.inl hst)]
    omega

/-- A byte of a candidate takes one step of the 57 that its index has. -/
theorem fsuBudget_readOn_lt {s t : State} (h : FsuInv s) (hrun : s.st.isHold = false)
    (hstream : t.stream = s.stream) (hst : t.st.inCandidate = true)
    (hlen : s.pos < s.stream.length) (hstart : t.start = searchFrom s) (hpos : t.pos = s.pos + 1) :
    fsuBudget t < fsuBudget s := by
  rw [fsuBudget_of_inCandidate hst, hstream, hpos, hstart]
  rcases FsuState.inCandidate_or_seekingSync1 hrun with hcand | hsearch
  · obtain ⟨-, hhigh⟩ := cursor_of_inCandidate h.cursor hcand
    rw [fsuBudget_of_inCandidate hcand, searchFrom_of_inCandidate hcand]
    omega
  · rw [fsuBudget_between_candidates (.inl hsearch),
      searchFrom_of_not_inCandidate (by rw [hsearch]; rfl)]
    omega

/-- Settles O47: a byte of a candidate takes one step of its index's 57, and an index given up or
accepted leaves only those behind it. -/
theorem fsuStepSpendsBudget : Obligations.FsuStepSpendsBudget := by
  intro s t h hstep
  refine ⟨?_, fsuBudget_eq_zero_iff t⟩
  have hrun := isHold_of_fsuStep hstep
  obtain ⟨⟨-, -, -, hstream, -⟩, -⟩ := fsuStepsLeaveHostRegisters s t hstep
  have hafter (hst : t.st = .seekingSync1 ∨ t.st = .reject ∨ t.st = .accept)
      (hlen : searchFrom s < s.stream.length) (hpos : searchFrom s + 1 ≤ t.pos) :
      fsuBudget t < fsuBudget s := by
    have := lt_fsuBudget h hrun hlen
    rw [fsuBudget_between_candidates hst, hstream]
    omega
  cases fsuStep_scanProgress h hstep with
  | readOn hst hlen hstart hpos => exact fsuBudget_readOn_lt h hrun hstream hst hlen hstart hpos
  | giveUp hst hlen hpos _ => exact hafter (by tauto) hlen hpos
  | accept hst hlen _ _ hpos => exact hafter (by tauto) hlen (by omega)
  | exhaust hst _ _ =>
    rw [(fsuBudget_eq_zero_iff t).mpr hst, Nat.pos_iff_ne_zero, Ne, fsuBudget_eq_zero_iff]
    exact fun hs => by simp [hs, FsuState.isHold] at hrun

end Sys2Proof.Machine
end

section
/-! Runs with a host that acknowledges every frame event at once: they end (43_frame_sync.md R212),
and under RESCAN they miss no valid frame (R211). -/

namespace Sys2Proof.Machine

/-! ## One step and its ACK -/

/-- The host's ACK of a frame event is the event return (44_control.md R244). -/
theorem hostAck_of_frame_event {t : State} (h : FsuInv t) (hst : t.st = .accept ∨ t.st = .reject) :
    hostAck t = t.returnFromEvent.succeed := by
  have hev := h.event
  rcases hst with hst | hst <;> rw [hst, heldEvent] at hev <;>
    simp only [hostAck, exec, execAck, hev]

theorem hostAck_keeps_fsuInv {t : State} (h : FsuInv t) (hst : t.st = .accept ∨ t.st = .reject) :
    FsuInv (hostAck t) := by
  rw [hostAck_of_frame_event h hst]
  exact fsuInv_of_search h rfl rfl rfl rfl rfl rfl rfl

/-- After the ACK of a frame event the search goes on where the event left the cursor (R208). -/
theorem hostAck_resumes {t : State} (h : FsuInv t) (hst : t.st = .accept ∨ t.st = .reject) :
    (hostAck t).st = .seekingSync1 ∧ searchFrom (hostAck t) = searchFrom t ∧
      fsuBudget (hostAck t) = fsuBudget t := by
  have hcand : t.st.inCandidate = false := by rcases hst with hst | hst <;> rw [hst] <;> rfl
  rw [hostAck_of_frame_event h hst, searchFrom_of_not_inCandidate hcand,
    fsuBudget_between_candidates (s := t) (by tauto)]
  exact ⟨rfl, rfl, rfl⟩

theorem hostAck_outside (t : State) :
    (hostAck t).params = t.params ∧ (hostAck t).stream = t.stream ∧
      (hostAck t).ended = t.ended := by
  unfold hostAck
  rcases execAck_cases t with ⟨-, h⟩ | ⟨-, h⟩ | ⟨-, h⟩ <;> simp [exec, h]

section
variable {s t : State} (h : FsuInv s) (hstep : fsuStep s = some t)
include hstep

theorem ackedFsuStep_cases :
    ((t.st = .accept ∨ t.st = .reject) ∧ ackedFsuStep s = hostAck t) ∨
    (¬(t.st = .accept ∨ t.st = .reject) ∧ ackedFsuStep s = t) := by
  unfold ackedFsuStep
  rw [hstep]
  by_cases hst : t.st = .accept ∨ t.st = .reject <;> simp [hst]

theorem ackedFsuStep_outside :
    (ackedFsuStep s).params = s.params ∧ (ackedFsuStep s).stream = s.stream ∧
      (ackedFsuStep s).ended = s.ended := by
  obtain ⟨⟨-, -, hparams, hstream, hended, -⟩, -⟩ := fsuStepsLeaveHostRegisters s t hstep
  obtain ⟨aparams, astream, aended⟩ := hostAck_outside t
  rcases ackedFsuStep_cases hstep with ⟨-, heq⟩ | ⟨-, heq⟩ <;> rw [heq]
  · exact ⟨aparams.trans hparams, astream.trans hstream, aended.trans hended⟩
  · exact ⟨hparams, hstream, hended⟩

include h

theorem ackedFsuStep_keeps_fsuInv : FsuInv (ackedFsuStep s) := by
  have ht := fsuStep_keeps_fsuInv h hstep
  rcases ackedFsuStep_cases hstep with ⟨hst, heq⟩ | ⟨-, heq⟩ <;> rw [heq]
  · exact hostAck_keeps_fsuInv ht hst
  · exact ht

/-- The step and its ACK leave the FSU a step to take, unless the stream is exhausted. -/
theorem ackedFsuStep_runs : (ackedFsuStep s).st.isHold = false ∨
    t.st = .exhausted ∧ (ackedFsuStep s).st = .exhausted := by
  rcases ackedFsuStep_cases hstep with ⟨hst, heq⟩ | ⟨hst, heq⟩ <;> rw [heq]
  · obtain ⟨hsearch, -⟩ := hostAck_resumes (fsuStep_keeps_fsuInv h hstep) hst
    rw [hsearch]
    exact .inl rfl
  · cases ht : t.st <;> simp_all [FsuState.isHold]

theorem ackedFsuStep_searchFrom : searchFrom (ackedFsuStep s) = searchFrom t := by
  rcases ackedFsuStep_cases hstep with ⟨hst, heq⟩ | ⟨-, heq⟩ <;> rw [heq]
  obtain ⟨-, hfrom, -⟩ := hostAck_resumes (fsuStep_keeps_fsuInv h hstep) hst
  exact hfrom

theorem ackedFsuStep_fsuBudget_lt : fsuBudget (ackedFsuStep s) < fsuBudget s := by
  obtain ⟨hlt, -⟩ := fsuStepSpendsBudget s t h hstep
  rcases ackedFsuStep_cases hstep with ⟨hst, heq⟩ | ⟨-, heq⟩ <;> rw [heq]
  · obtain ⟨-, -, hbudget⟩ := hostAck_resumes (fsuStep_keeps_fsuInv h hstep) hst
    rwa [hbudget]
  · exact hlt

end

/-- Outside the hold states the FSU has a step, unless it waits for a byte of a live stream
(R191). -/
theorem exists_fsuStep {s : State} (hrun : s.st.isHold = false)
    (hbyte : s.st = .validating ∨ s.pos < s.stream.length ∨ s.ended = true) :
    ∃ t, fsuStep s = some t := by
  rw [← Option.isSome_iff_exists, fsuStepEnabledExactly]
  cases hst : s.st <;> simp_all [FsuState.isHold]

/-! ## Termination -/

theorem exhausted_within_budget {n : Nat} {s : State} (h : FsuInv s) (hended : s.ended = true)
    (hst : s.st.isHold = false ∨ s.st = .exhausted) (hn : fsuBudget s ≤ n) :
    ∃ m ≤ n, (ackedRun m s).st = .exhausted := by
  induction n generalizing s with
  | zero => exact ⟨0, le_rfl, (fsuBudget_eq_zero_iff s).mp (Nat.le_zero.mp hn)⟩
  | succ n ih =>
    rcases hst with hrun | hst
    · obtain ⟨t, hstep⟩ := exists_fsuStep hrun (.inr (.inr hended))
      obtain ⟨-, -, hended'⟩ := ackedFsuStep_outside hstep
      have hlt := ackedFsuStep_fsuBudget_lt h hstep
      obtain ⟨m, hm, hlast⟩ := ih (ackedFsuStep_keeps_fsuInv h hstep) (hended'.trans hended)
        ((ackedFsuStep_runs h hstep).imp_right And.right) (by omega)
      exact ⟨m + 1, Nat.succ_le_succ hm, hlast⟩
    · exact ⟨0, Nat.zero_le _, hst⟩

/-- Settles O46: the budget of the first state is the bound. -/
theorem scanTerminates : Obligations.ScanTerminates := by
  intro p bytes
  exact exhausted_within_budget
    (fsuInv_of_search (fsuInv_reset p []) rfl rfl rfl rfl rfl rfl rfl) rfl (.inl rfl) le_rfl

/-! ## The rescan guarantee -/

/-- What R211 promises: the acknowledged run from s accepts the frame at f, or one that starts at lo
or later and overlaps it. -/
def AcceptsFrameOver (s : State) (lo f : Nat) : Prop :=
  ∃ (n : Nat) (t : State) (g : Nat), fsuStep (ackedRun n s) = some t ∧
    t.st = .accept ∧ t.ev = .frameAccepted ∧ t.evPos = g ∧
    (g = f ∨ (lo ≤ g ∧ g < f ∧ f < g + 56))

theorem AcceptsFrameOver.of_ackedFsuStep {s : State} {lo f : Nat}
    (h : AcceptsFrameOver (ackedFsuStep s) lo f) : AcceptsFrameOver s lo f := by
  obtain ⟨n, hn⟩ := h
  exact ⟨n + 1, hn⟩

/-- The next byte to read is one of the 56 of a candidate at the index searched. -/
theorem pos_lt_of_isConsuming {s : State} (h : FsuInv s) (hc : s.st.isConsuming = true) :
    s.pos < searchFrom s + 56 := by
  cases hst : s.st <;> simp only [hst, FsuState.isConsuming, Bool.false_eq_true] at hc
  case seekingSync1 =>
    rw [searchFrom_of_not_inCandidate (by rw [hst]; rfl)]
    omega
  all_goals rw [searchFrom_of_inCandidate (by rw [hst]; rfl)]
  case seekingSync2 => have := h.pos_of_seekingSync2 hst; omega
  case readingHeader => have := h.pos_of_readingHeader hst; omega
  case readingPayload => have := h.pos_of_readingPayload hst; omega

theorem FsuState.isConsuming_or_validating {st : FsuState} (h : st.isHold = false) :
    st.isConsuming = true ∨ st = .validating := by
  cases st <;> simp_all [FsuState.isHold, FsuState.isConsuming]

/-- As long as the search has not passed a valid frame, it goes on. -/
theorem acceptsFrameOver_of_searchFrom_le {s : State} {lo f : Nat} (h : FsuInv s)
    (hrescan : s.params.filterPolicy = .rescan) (hrun : s.st.isHold = false)
    (hlo : lo ≤ searchFrom s) (hle : searchFrom s ≤ f)
    (hvalid : ValidFrameAt s.params s.stream f) : AcceptsFrameOver s lo f := by
  induction hb : fsuBudget s using Nat.strong_induction_on generalizing s with
  | _ budget ih =>
    have hlen := hvalid.length_le
    have hbyte (hc : s.st.isConsuming = true) : s.pos < s.stream.length := by
      have := pos_lt_of_isConsuming h hc
      omega
    obtain ⟨t, hstep⟩ := exists_fsuStep hrun
      ((FsuState.isConsuming_or_validating hrun).elim (fun hc => .inr (.inl (hbyte hc))) .inl)
    have hon (hst : t.st ≠ .exhausted) (hlo' : lo ≤ searchFrom t) (hle' : searchFrom t ≤ f) :
        AcceptsFrameOver s lo f := by
      obtain ⟨hparams, hstream, -⟩ := ackedFsuStep_outside hstep
      have hfrom := ackedFsuStep_searchFrom h hstep
      refine (ih _ (hb ▸ ackedFsuStep_fsuBudget_lt h hstep) (ackedFsuStep_keeps_fsuInv h hstep)
        (by rw [hparams, hrescan]) ?_ (by rwa [hfrom]) (by rwa [hfrom])
        (by rwa [hparams, hstream]) rfl).of_ackedFsuStep
      exact (ackedFsuStep_runs h hstep).resolve_right fun hend => hst hend.1
    cases fsuStep_scanProgress h hstep with
    | readOn hst _ hstart _ =>
      have hfrom : searchFrom t = searchFrom s := (searchFrom_of_inCandidate hst).trans hstart
      have hne : t.st ≠ .exhausted := fun heq => by simp [heq, FsuState.inCandidate] at hst
      exact hon hne (hlo.trans hfrom.ge) (hfrom.trans_le hle)
    | giveUp hst _ _ hnext =>
      obtain ⟨hpos, hinvalid⟩ := hnext hrescan
      have hne : searchFrom s ≠ f := fun heq => hinvalid (heq ▸ hvalid)
      have hfrom : searchFrom t = t.pos :=
        searchFrom_of_not_inCandidate (by rcases hst with hst | hst <;> rw [hst] <;> rfl)
      exact hon (by rcases hst with hst | hst <;> simp [hst]) (by omega) (by omega)
    | accept hst _ hev hevPos hpos =>
      by_cases hover : f < searchFrom s + 56
      · exact ⟨0, t, searchFrom s, hstep, hst, hev, hevPos, by omega⟩
      · have hfrom : searchFrom t = t.pos := searchFrom_of_not_inCandidate (by rw [hst]; rfl)
        exact hon (by simp [hst]) (by omega) (by omega)
    | exhaust _ hcons hend => exact absurd (hbyte hcons) (Nat.not_lt.mpr hend)

/-- Settles O45: the search at or before a valid frame passes no index at which a frame starts. -/
theorem rescanFindsEveryValidFrame : Obligations.RescanFindsEveryValidFrame := by
  intro s f h hrescan hst hle hvalid
  have hfrom : searchFrom s = s.pos := searchFrom_of_not_inCandidate (by rw [hst]; rfl)
  exact acceptsFrameOver_of_searchFrom_le h hrescan (by rw [hst]; rfl) hfrom.ge (hfrom.trans_le hle)
    hvalid

end Sys2Proof.Machine
end

section
/-! The reserved bits of a command word as the masks RMASK of 44_control.md R241, and the reserved
operation codes (30_encoding.md R101). -/

namespace Sys2Proof

/-! ## Reserved operation codes -/

/-- OP 0xA and 0xB are one row of the opcode table and OP 0xC to 0xF the other (log 10). -/
theorem decode_of_reserved_opcode {w : Word} (h : 10 ≤ w.toNat / 2 ^ 28) :
    (∃ low, decode w = .ok (.reservedAB low)) ∨ (∃ low, decode w = .ok (.reservedCF low)) := by
  have hlt := w.isLt
  by_cases hop : w.toNat / 2 ^ 28 < 12
  · refine .inl ⟨_, decode_reservedAB (BitVec.eq_of_toNat_eq ?_)⟩
    rw [toNat_slice, BitVec.toNat_ofNat]
    omega
  · refine .inr ⟨_, decode_reservedCF (BitVec.eq_of_toNat_eq ?_)⟩
    rw [toNat_slice, BitVec.toNat_ofNat]
    omega

/-! ## Reserved bits -/

/-- A mask of the low bits meets the word exactly when the slice of those bits is not 0. -/
theorem and_lowMask_ne_zero_iff (w : Word) {lo : Nat} (hlo : lo ≤ 32) :
    w &&& BitVec.ofNat 32 (2 ^ lo - 1) ≠ 0 ↔ w.extractLsb' 0 lo ≠ 0 := by
  have hmask : (2 ^ lo - 1) % 2 ^ 32 = 2 ^ lo - 1 :=
    Nat.mod_eq_of_lt ((Nat.sub_one_lt (by positivity)).trans_le
      (Nat.pow_le_pow_right (by decide) hlo))
  refine not_congr ?_
  rw [← BitVec.toNat_inj, ← BitVec.toNat_inj, BitVec.toNat_and, BitVec.toNat_ofNat, hmask,
    Nat.and_two_pow_sub_one_eq_mod, toNat_slice, Nat.pow_zero, Nat.div_one]
  rfl

theorem decode_eq_error_iff_of_row {w mask : Word} {lo : Nat} {i : Instr}
    (hrow : decode w = unlessReserved (w.extractLsb' 0 lo) i)
    (hmask : mask = BitVec.ofNat 32 (2 ^ lo - 1) := by rfl) (hlo : lo ≤ 32 := by decide) :
    decode w = .error .reservedBits ↔ w &&& mask ≠ 0 := by
  rw [hmask, and_lowMask_ne_zero_iff w hlo, hrow]
  rcases Machine.unlessReserved_cases (w.extractLsb' 0 lo) i with ⟨hzero, hok⟩ | ⟨hne, herr⟩
  · exact iff_of_false (by simp [hok]) (not_not.mpr hzero)
  · exact iff_of_true herr hne

/-- Settles O3: a reserved operation code always decodes, and each assigned one has a row whose
reserved bits are the low bits that its mask covers. -/
theorem decoderRejectsExactlyReservedBits : Obligations.DecoderRejectsExactlyReservedBits := by
  intro w
  by_cases hassigned : w.toNat / 2 ^ 28 < 10
  · rw [and_iff_right hassigned]
    interval_cases hop : w.toNat / 2 ^ 28
    · exact decode_eq_error_iff_of_row (decode_nop (opcode_of_div hop))
    · exact decode_eq_error_iff_of_row (decode_extract (opcode_of_div hop))
    · exact decode_eq_error_iff_of_row (decode_concat (opcode_of_div hop))
    · exact decode_eq_error_iff_of_row (decode_sext (opcode_of_div hop))
    · exact decode_eq_error_iff_of_row (decode_scale (opcode_of_div hop))
    · exact decode_eq_error_iff_of_row (decode_field (opcode_of_div hop))
    · exact decode_eq_error_iff_of_row (decode_crc24q (opcode_of_div hop))
    · exact decode_eq_error_iff_of_row (decode_crcchk (opcode_of_div hop))
    · exact decode_eq_error_iff_of_row (decode_loadw (opcode_of_div hop))
    · exact decode_eq_error_iff_of_row (decode_ack (opcode_of_div hop))
  · rw [iff_false_right fun h => hassigned h.1]
    rcases decode_of_reserved_opcode (Nat.le_of_not_lt hassigned) with ⟨low, hw⟩ | ⟨low, hw⟩ <;>
      simp [hw]

end Sys2Proof
end

section
/-! The control commands NOP, LOADW and ACK (44_control.md R242 to R244). -/

namespace Sys2Proof.Machine

/-! ## NOP -/

/-- Settles O9: the meaning of NOP is the update itself, and every bit below its OP is reserved. -/
theorem nopClearsCerr : Obligations.NopClearsCerr :=
  ⟨fun _ => rfl, decodeInvertsEncode .nop,
    fun _ hop hlow => raisesReservedBits_of_row (decode_nop (opcode_of_div hop)) hlow⟩

/-! ## LOADW -/

theorem FsuState.isHold_iff (st : FsuState) :
    st.isHold = true ↔ st = .accept ∨ st = .reject ∨ st = .exhausted := by
  cases st <;> simp [FsuState.isHold]

theorem operandWord_eq_setWidth (s : State) : s.operandWord = s.portA.setWidth 32 :=
  (BitVec.setWidth_eq_extractLsb' (by decide)).symm

theorem execLoadw_of_not_hold {s : State} (hst : ¬ s.st.isHold = true) (k : BitVec 4) :
    execLoadw k s = .next (s.raiseCmdError .busy) :=
  if_pos (Bool.eq_false_of_not_eq_true hst)

/-- Past the BUSY check, LOADW is a range check before the write. -/
theorem execLoadw_of_hold {s : State} (hst : s.st.isHold = true) (k : BitVec 4) :
    execLoadw k s = if 9 < k.toNat then .next (s.raiseCmdError .range)
      else .next (s.writePayloadWord k.toNat s.operandWord).succeed :=
  if_neg (by simp [hst])

theorem ofNat_sum_eq_encode_loadw (k : BitVec 4) :
    BitVec.ofNat 32 (0x8 * 2 ^ 28 + k.toNat * 2 ^ 24) = encode (.loadw k) := by
  rw [ofNat_add_field _ (by omega)]
  rfl

/-- Settles O19: the outcomes of LOADW in and outside a hold state, the words of PW after its write,
and the word's field and reserved bits. -/
theorem loadwWritesOnePayloadWord : Obligations.LoadwWritesOnePayloadWord := by
  refine ⟨fun s k hst hk => ⟨s.pw.setIfInBounds k.toNat s.operandWord, ?_, fun j => ?_⟩,
    fun s k hst => ?_, fun s k hst hk => ?_, fun k => ?_, fun w hop hlow => ?_⟩
  · exact (execLoadw_of_hold (s.st.isHold_iff.mpr hst) k).trans (if_neg (Nat.not_lt.mpr hk))
  · rw [operandWord_eq_setWidth]
    exact (Vector.getElem_setIfInBounds j.isLt).trans (if_congr eq_comm rfl rfl)
  · exact execLoadw_of_not_hold (mt s.st.isHold_iff.mp hst) k
  · exact (execLoadw_of_hold (s.st.isHold_iff.mpr hst) k).trans (if_pos hk)
  · rw [ofNat_sum_eq_encode_loadw]; exact decodeInvertsEncode _
  · exact raisesReservedBits_of_row (decode_loadw (opcode_of_div hop)) hlow

/-! ## ACK -/

theorem execAck_of_none {s : State} (hev : s.ev = .none) :
    execAck s = .next (s.raiseCmdError .noEvent) := by
  rw [execAck, hev]

theorem execAck_of_frame_event {s : State}
    (hev : s.ev = .frameAccepted ∨ s.ev = .checksumMismatch) :
    execAck s = .next s.returnFromEvent.succeed := by
  rcases hev with hev | hev <;> rw [execAck, hev]

theorem execAck_of_exhausted {s : State} (hev : s.ev = .streamExhausted) :
    execAck s = .next s.succeed := by
  rw [execAck, hev]

/-- Settles O20: the outcome of ACK at each value of EV, and every bit below its OP is reserved. -/
theorem ackReleasesHold : Obligations.AckReleasesHold :=
  ⟨fun _ hev => execAck_of_frame_event hev, fun _ hev => execAck_of_exhausted hev,
    fun _ hev => execAck_of_none hev, decodeInvertsEncode .ack,
    fun _ hop hlow => raisesReservedBits_of_row (decode_ack (opcode_of_div hop)) hlow⟩

end Sys2Proof.Machine
end

section
/-! The command step as a whole: what it leaves in RES and CERR (44_control.md R245), and the order
of its checks (R241). -/

namespace Sys2Proof.Machine

theorem commandTurn_of_decode {cmd : Word} {i : Instr} (h : decode cmd = .ok i) (a b : Wide)
    (s : State) : commandTurn cmd a b s = exec i (s.presentOperands a b) := by
  rw [commandTurn, h]

/-! ## RES and CERR -/

/-- Settles O22: a rejected word raises RESERVED_BITS, and `exec_cases` says which registers a
decoded command writes. -/
theorem resultAndErrorUpdateRule : Obligations.ResultAndErrorUpdateRule := by
  intro s cmd a b
  cases hcmd : decode cmd with
  | error r =>
    cases r
    exact ⟨_, raisesReservedBits_of_decode hcmd a b s, fun _ => rfl, fun hok => nomatch hok⟩
  | ok i =>
    rw [commandTurn_of_decode hcmd]
    rcases exec_cases i (s.presentOperands a b) with ⟨c, hc, heq⟩ | ⟨hv, v, heq⟩ | ⟨rfl, heq⟩ |
      ⟨k, rfl, -, -, heq⟩ | ⟨rfl, -, heq⟩ | ⟨rfl, -, heq⟩
    · exact ⟨_, heq, fun _ => rfl, fun hok => absurd hok hc⟩
    · exact ⟨_, heq, fun herr => absurd rfl herr, fun _ =>
        ⟨i, rfl, fun _ => rfl, fun hnv => absurd hv (by simp [hnv])⟩⟩
    all_goals exact ⟨_, heq, fun herr => absurd rfl herr, fun _ =>
      ⟨_, rfl, fun hv => absurd hv Bool.false_ne_true, fun _ => rfl⟩⟩

/-! ## What the decoder leaves of a word -/

theorem decode_of_accepted {w : Word} {n : Nat} {r : BitVec n} {i : Instr}
    (hrow : decode w = unlessReserved r i) (haccepted : decode w ≠ .error .reservedBits) :
    decode w = .ok i := by
  rcases unlessReserved_cases r i with ⟨-, hok⟩ | ⟨-, herr⟩
  · exact hrow.trans hok
  · exact absurd (hrow.trans herr) haccepted

/-- The slice of one bit as a number. -/
theorem toNat_bit_slice (w : Word) (lo : Nat) :
    (w.extractLsb' lo 1).toNat = (w.getLsbD lo).toNat := by
  rw [toNat_slice, ← BitVec.testBit_toNat, Nat.toNat_testBit, Nat.pow_one]

theorem width_containerOfBit (b : Bool) :
    (containerOfBit b).width = if b.toNat = 1 then 64 else 32 := by cases b <;> rfl

/-! ## The order of the checks -/

/-- The command step raises the error `code`: RES is 0, CERR the code, and besides the operand ports
nothing else is written (60_exceptions.md R262). -/
def CommandRaises (cmd : Word) (a b : Wide) (s : State) (code : CmdError) : Prop :=
  commandTurn cmd a b s = .next { s with portA := a, portB := b, res := 0, cerr := code }

/-- The command step runs the rule of the decoded command, which succeeds. -/
def CommandSucceeds (cmd : Word) (a b : Wide) (s : State) : Prop :=
  ∃ (i : Instr) (t : State), decode cmd = .ok i ∧
    commandTurn cmd a b s = exec i { s with portA := a, portB := b } ∧
    exec i { s with portA := a, portB := b } = .next t ∧ t.cerr = .ok

section
variable {cmd : Word} {a b : Wide} {s t : State} {i : Instr}

theorem commandRaises_of_exec {code : CmdError} (h : decode cmd = .ok i)
    (hexec : exec i (s.presentOperands a b) =
      .next ((s.presentOperands a b).raiseCmdError code)) : CommandRaises cmd a b s code :=
  (commandTurn_of_decode h a b s).trans hexec

theorem commandSucceeds_of_exec (h : decode cmd = .ok i)
    (hexec : exec i (s.presentOperands a b) = .next t) (hok : t.cerr = .ok) :
    CommandSucceeds cmd a b s :=
  ⟨i, t, h, commandTurn_of_decode h a b s, hexec, hok⟩

/-- A command that makes one check, of its ranges, fails or succeeds by that check. -/
theorem command_rangeCheck {bad : Prop} [Decidable bad] (h : decode cmd = .ok i)
    (hexec : exec i (s.presentOperands a b) =
      if bad then .next ((s.presentOperands a b).raiseCmdError .range) else .next t)
    (hok : t.cerr = .ok) :
    if bad then CommandRaises cmd a b s .range else CommandSucceeds cmd a b s := by
  split
  · next hb => exact commandRaises_of_exec h (hexec.trans (if_pos hb))
  · next hb => exact commandSucceeds_of_exec h (hexec.trans (if_neg hb)) hok

theorem commandRaises_illegalOp (h : 10 ≤ cmd.toNat / 2 ^ 28) :
    CommandRaises cmd a b s .illegalOp := by
  rcases decode_of_reserved_opcode h with ⟨low, hcmd⟩ | ⟨low, hcmd⟩ <;>
    exact commandRaises_of_exec hcmd rfl

/-- FIELD checks its exponent before its range (R128; log 9). -/
theorem command_field {p : BitVec 9} {wm1 : BitVec 6} {sg sc : Bool} {e : BitVec 8}
    (h : decode cmd = .ok (.field p wm1 sg sc e)) :
    if sc.toNat = 0 ∧ e.toNat ≠ 0 then CommandRaises cmd a b s .reservedBits
    else if 320 < p.toNat + (wm1.toNat + 1) then CommandRaises cmd a b s .range
    else CommandSucceeds cmd a b s := by
  have hexp : sc.toNat = 0 ∧ e.toNat ≠ 0 ↔ sc = false ∧ e ≠ 0 := by
    simp [← BitVec.toNat_inj]
  split
  · next hbad => exact commandRaises_of_exec h (if_pos (hexp.mp hbad))
  · next hgood => exact command_rangeCheck h (if_neg (mt hexp.mpr hgood)) rfl

/-- LOADW checks for a hold state before its range (R243). -/
theorem command_loadw {k : BitVec 4} (h : decode cmd = .ok (.loadw k)) :
    if ¬(s.st = .accept ∨ s.st = .reject ∨ s.st = .exhausted) then CommandRaises cmd a b s .busy
    else if 9 < k.toNat then CommandRaises cmd a b s .range
    else CommandSucceeds cmd a b s := by
  split
  · next hst =>
    exact commandRaises_of_exec h
      (execLoadw_of_not_hold (s := s.presentOperands a b) (mt s.st.isHold_iff.mp hst) k)
  · next hst =>
    have hhold : (s.presentOperands a b).st.isHold = true := s.st.isHold_iff.mpr (not_not.mp hst)
    exact command_rangeCheck h (execLoadw_of_hold hhold k) rfl

theorem command_ack (h : decode cmd = .ok .ack) :
    if s.ev = .none then CommandRaises cmd a b s .noEvent else CommandSucceeds cmd a b s := by
  split
  · next hev => exact commandRaises_of_exec h (execAck_of_none hev)
  · next hev =>
    obtain ⟨t, hexec, hok⟩ := execAck_succeeds (s := s.presentOperands a b) hev
    exact commandSucceeds_of_exec h hexec (hok.mpr rfl)

end

/-- Settles O8: the first two checks are the decoder's; past them each operation code has one row,
whose command makes the remaining checks that name that code. -/
theorem commandUnitDecodeOrder : Obligations.CommandUnitDecodeOrder := by
  intro s cmd a b op slice rmask raises outOfRange
  by_cases hreserved : 10 ≤ op
  · rw [if_pos hreserved]
    exact commandRaises_illegalOp hreserved
  rw [if_neg hreserved]
  by_cases hmask : cmd &&& rmask.getD op 0 ≠ 0
  · rw [if_pos hmask]
    exact raisesReservedBits_of_decode
      ((decoderRejectsExactlyReservedBits cmd).mpr ⟨Nat.lt_of_not_le hreserved, hmask⟩) a b s
  rw [if_neg hmask]
  have haccepted : decode cmd ≠ .error .reservedBits := fun h =>
    hmask ((decoderRejectsExactlyReservedBits cmd).mp h).2
  have hslice (lo len : Nat) : slice lo len = (cmd.extractLsb' lo len).toNat :=
    (toNat_slice cmd lo len).symm
  have hop : op = cmd.toNat / 2 ^ 28 := rfl
  simp only [hslice, outOfRange]
  clear_value op
  have hrow {n : Nat} {r : BitVec n} {i : Instr} (h : decode cmd = unlessReserved r i) :
      decode cmd = .ok i := decode_of_accepted h haccepted
  interval_cases op <;> simp only [Nat.reduceEqDiff, OfNat.zero_ne_ofNat, OfNat.ofNat_ne_one,
    false_and, true_and, false_or, or_false, if_false] <;> replace hop := opcode_of_div hop.symm
  · exact commandSucceeds_of_exec (hrow (decode_nop hop)) rfl rfl
  · exact command_rangeCheck (hrow (decode_extract hop)) rfl rfl
  · exact command_rangeCheck (hrow (decode_concat hop)) rfl rfl
  · rw [toNat_bit_slice, ← width_containerOfBit]
    exact command_rangeCheck (hrow (decode_sext hop)) rfl rfl
  · exact commandSucceeds_of_exec (hrow (decode_scale hop)) rfl rfl
  · rw [toNat_bit_slice]
    exact command_field (hrow (decode_field hop))
  · exact command_rangeCheck (hrow (decode_crc24q hop)) rfl rfl
  · exact commandSucceeds_of_exec (hrow (decode_crcchk hop)) rfl rfl
  · exact command_loadw (hrow (decode_loadw hop))
  · exact command_ack (hrow (decode_ack hop))

end Sys2Proof.Machine
end

section
/-! What the exceptions leave out: a rejected candidate is silent (60_exceptions.md R265), and no step
ends in a fault or a refusal (R260, R266). -/

namespace Sys2Proof.Machine

/-! ## START is written with a new candidate alone -/

@[simp] theorem filterFailure_start (s : State) : s.filterFailure.start = s.start := by
  rcases filterFailure_cases s with ⟨-, heq⟩ | ⟨-, heq⟩ <;> rw [heq] <;> rfl

@[simp] theorem headerTests_start (s : State) (o : Nat) : (s.headerTests o).start = s.start := by
  rcases headerTests_cases s o with
    ⟨-, -, heq⟩ | ⟨-, -, heq⟩ | ⟨-, -, heq⟩ | ⟨-, -, heq⟩ | ⟨-, -, heq⟩ <;> rw [heq]
  case inr.inr.inr.inl => exact filterFailure_start s
  all_goals rfl

@[simp] theorem readHeader_start (s : State) (o : Nat) (x : Byte) :
    (s.readHeader o x).start = s.start := headerTests_start _ o

@[simp] theorem readPayload_start (s : State) (o : Nat) (x : Byte) :
    (s.readPayload o x).start = s.start := by
  rcases readPayload_cases s o x with ⟨-, heq⟩ | ⟨-, -, heq⟩ | ⟨-, heq⟩ <;> rw [heq] <;> rfl

/-- A byte that moves START is the SYNC1 byte of a new candidate (43_frame_sync.md R194). -/
theorem consume_start_cases (s : State) (x : Byte) :
    (s.consume x).start = s.start ∨ (s.consume x).st = .seekingSync2 := by
  unfold State.consume
  split
  case h_1 =>
    rcases seekSync1_cases s.advance s.pos x with ⟨-, heq⟩ | ⟨-, heq⟩ <;> rw [heq]
    · exact .inr rfl
    · exact .inl rfl
  case h_2 =>
    rcases seekSync2_cases s.advance x with ⟨-, heq⟩ | ⟨-, heq⟩ <;> rw [heq] <;> exact .inl rfl
  case h_3 => exact .inl (readHeader_start s.advance _ x)
  case h_4 => exact .inl (readPayload_start s.advance _ x)
  all_goals exact .inl rfl

/-- Settles O41: only the reading of a byte leads to SEEKING_SYNC1; it writes scan registers alone, and
START only on the way to SEEKING_SYNC2. -/
theorem rejectionsAreSilent : Obligations.RejectionsAreSilent := by
  intro s t hstep hst
  rcases fsuStep_cases hstep with ⟨-, x, -, rfl⟩ | ⟨-, -, -, rfl⟩ | ⟨-, rfl⟩
  · have hframe := consume_frame s x
    have hstart : (s.consume x).start = s.start :=
      (consume_start_cases s x).resolve_right (by rw [hst]; decide)
    rwa [hst, hstart] at hframe
  · cases hst
  · rcases validate_cases s with ⟨-, heq⟩ | ⟨-, heq⟩ <;> rw [heq] at hst <;> cases hst

/-! ## Every turn has a next state -/

/-- The FSU's turn answers next even where it has no step (log 2); that the command turn does is part
of R245 and R262. -/
theorem turnOf_answers_next (i : Input) (s : State) : ∃ t, turnOf i s = .next t := by
  cases i with
  | fsu => exact ⟨_, rfl⟩
  | command cmd a b =>
    obtain ⟨t, hnext, -⟩ := resultAndErrorUpdateRule s cmd a b
    exact ⟨t, hnext⟩
  | deliver bytes => exact ⟨_, rfl⟩
  | endOfStream => exact ⟨_, rfl⟩
  | reset rebind => exact ⟨_, rfl⟩

/-- Settles O55: a step is the turn of the next input. -/
theorem everyStepAnswersNext : Obligations.EveryStepAnswersNext := fun s =>
  step_eq_turnOf s ▸ turnOf_answers_next _ _

end Sys2Proof.Machine
end

section
/-! The state after reset, and the message check over its zero payload words (70_reset_and_hazards.md
R290, R291). -/

namespace Sys2Proof.Machine

/-! ## The message of ten zero words -/

theorem sbit_zeroWords (i : ℕ) : sbit (Vector.replicate 10 0) i = false := by
  have hword : payloadWord (Vector.replicate 10 0) (i / 32) = 0 := by
    rw [payloadWord, Vector.getElem?_replicate]
    split <;> rfl
  rw [sbit, hword]
  exact BitVec.getMsbD_zero

/-- The cleared register meets no 1 bit, so no step adds the mask. -/
theorem crc24qOf_zeroWords (n : ℕ) : crc24qOf (Vector.replicate 10 0) n = 0 := by
  induction n with
  | zero => rfl
  | succ n ih => rw [crc24qOf_succ, ih, sbit_zeroWords]; rfl

/-- The residue over the zero message is 0, so its embedded CRC is the computed one, also 0. -/
theorem embeddedCrc_zeroWords : embeddedCrc (Vector.replicate 10 0) = 0 :=
  ((crcResidueZeroIffCheckHolds _).mp (crc24qOf_zeroWords 300)).symm.trans (crc24qOf_zeroWords 276)

theorem crcCheckResult_zeroWords :
    crcCheckResult (Vector.replicate 10 0) = 0x0001000000000000 := by
  have hcomputed : computedCrc (Vector.replicate 10 0) = 0 := crc24qOf_zeroWords crcCoverBits
  rw [crcCheckResult, hcomputed, embeddedCrc_zeroWords]
  rfl

/-! ## Reset -/

theorem frameByte_cleared {o : ℕ} (h : o < 56) : frameByte (Vector.replicate 56 0) o = 0 := by
  rw [frameByte_eq_getElem _ h, Vector.getElem_replicate]

/-- Settles O56: reset writes each register's value as a constant; only CRCCHK computes one, from
the zero payload words. -/
theorem resetStepClearsEveryRegister : Obligations.ResetStepClearsEveryRegister := by
  intro s rebind
  refine ⟨{ State.reset with params := rebind.getD s.params, inputs := s.inputs }, rfl,
    rfl, rfl, rfl, rfl, rfl, rfl, ?buffer, rfl, rfl, rfl, ?words, rfl, rfl, rfl, rfl, rfl, ?check⟩
  case buffer => exact fun o ho => frameByte_cleared ho
  case words => exact fun k => Vector.getElem_replicate k.isLt
  case check =>
    rw [← crcCheckResult_zeroWords]
    rfl

end Sys2Proof.Machine
end

section
/-! The step at each input: a command presented or placed, the FSU's turn, and reset (44_control.md
R240, 43_frame_sync.md R190, 70_reset_and_hazards.md R290; log 1). -/

namespace Sys2Proof.Machine

theorem step_of_inputs_cons {s : State} {i : Input} {rest : List Input}
    (hin : s.inputs = i :: rest) : step s = turnOf i (s.setInputs rest) := by
  rw [step_eq_turnOf, hin]
  rfl

theorem step_of_inputs_nil {s : State} (hin : s.inputs = []) : step s = fsuTurn s := by
  rw [step, takeTurn, hin]

/-! ## Commands -/

/-- Settles O5: the turn due is the command's, and it executes what the decoder answers. -/
theorem stepRunsPresentedCommand : Obligations.StepRunsPresentedCommand := by
  intro s cmd a b rest i hin hdec
  exact (step_of_inputs_cons hin).trans (commandTurn_of_decode hdec a b _)

/-- Settles O6: the turn due is the command's, and its word is rejected. -/
theorem stepRaisesReservedBits : Obligations.StepRaisesReservedBits := by
  intro s cmd a b rest hin hdec
  exact (step_of_inputs_cons hin).trans (raisesReservedBits_of_decode hdec a b _)

theorem decode_of_decodeTableWord {nbits w : Nat} {i : Instr}
    (h : decodeTableWord nbits w = some i) : decode (tableWord nbits w) = .ok i := by
  unfold decodeTableWord at h
  split at h
  · next j hdec => cases h; exact hdec
  · cases h

/-- Settles O7: the word placed is a command presented with the operands that stand on the ports, so
presenting it leaves the state as it was. -/
theorem placedWordRunsNext : Obligations.PlacedWordRunsNext := by
  intro s nbits w i h
  exact stepRunsPresentedCommand (s.withFetchWord nbits w) _ s.portA s.portB s.inputs i rfl
    (decode_of_decodeTableWord h)

/-- Settles O21: the meanings of the two rows are the error itself, and OP tells the rows apart by its
leading bits 101 and 11. -/
theorem reservedOpsRaiseIllegalOp : Obligations.ReservedOpsRaiseIllegalOp := by
  refine ⟨fun _ _ => rfl, fun _ _ => rfl, fun w hlow hhigh => ⟨_, decode_reservedAB ?_⟩,
    fun w hlow => ⟨_, decode_reservedCF ?_⟩⟩
  all_goals
    have hlt := w.isLt
    apply BitVec.eq_of_toNat_eq
    rw [toNat_slice, BitVec.toNat_ofNat]
    omega

/-! ## The FSU's turn -/

/-- Settles O33: the turn due is the FSU's when the next input says so, and when there is none. -/
theorem fsuTurnTakesFsuStep : Obligations.FsuTurnTakesFsuStep :=
  ⟨fun _ _ hin => step_of_inputs_cons hin, fun _ hin => step_of_inputs_nil hin⟩

/-! ## Reset -/

/-- Settles O43: `State.reset` is in the search for SYNC1 with its O_ registers at reset. -/
theorem resetMeetsFsuInvariant : Obligations.ResetMeetsFsuInvariant := fsuInv_reset

/-- Settles O57: the turn due is the reset, whose state has the stream and the end mark of
`State.reset` and the binding of the reset, or the old one where it has none. -/
theorem resetStartsNewRun : Obligations.ResetStartsNewRun := by
  intro s rebind rest hin
  have hstep := step_of_inputs_cons hin
  refine ⟨_, hstep, hstep, rfl, rfl, rfl, fun hnone => ?_, fun p hsome => ?_⟩
  · rw [hnone]; rfl
  · rw [hsome]; rfl

end Sys2Proof.Machine
end

section
/-! What stands outside the block: its parameters and its input stream (10_state.md R36,
20_memory.md R60), and EXHAUSTED, which only a reset leaves (43_frame_sync.md R197, R210). -/

namespace Sys2Proof.Machine

/-! ## Who writes the parameters and the stream -/

/-- From s to t neither the parameters nor the stream nor its end mark changed. -/
def KeepsOutside (s t : State) : Prop :=
  t.params = s.params ∧ t.stream = s.stream ∧ t.ended = s.ended

theorem commandTurn_keepsOutside {cmd : Word} {a b : Wide} {s t : State}
    (hstep : commandTurn cmd a b s = .next t) : KeepsOutside s t := by
  rcases commandTurn_cases cmd a b s with ⟨i, hi⟩ | herr
  · obtain ⟨hframe, -, -⟩ := commandsWriteOnlyTheirRegisters i _ t (hi.symm.trans hstep)
    rw [hframe]
    exact ⟨rfl, rfl, rfl⟩
  · cases herr.symm.trans hstep
    exact ⟨rfl, rfl, rfl⟩

theorem fsuTurn_keepsOutside {s t : State} (hstep : fsuTurn s = .next t) : KeepsOutside s t := by
  cases hstep
  cases hnext : fsuStep s with
  | none => exact ⟨rfl, rfl, rfl⟩
  | some t =>
    obtain ⟨⟨-, -, hparams, hstream, hended, -⟩, -⟩ := fsuStepsLeaveHostRegisters s t hnext
    exact ⟨hparams, hstream, hended⟩

/-- A turn is a reset; or a delivery to a stream not yet ended, which adds the bytes delivered; or
one that writes neither the parameters nor the bytes of the stream, and takes no end mark back. -/
theorem turnOf_outside_cases {i : Input} {s t : State} (hstep : turnOf i s = .next t) :
    (∃ rebind, i = .reset rebind ∧ t.params = rebind.getD s.params) ∨
    (∃ bytes, i = .deliver bytes ∧ s.ended = false ∧ t.params = s.params ∧
      t.stream = s.stream ++ bytes) ∨
    (t.params = s.params ∧ t.stream = s.stream ∧ (s.ended = true → t.ended = true)) := by
  cases i with
  | fsu =>
    obtain ⟨hparams, hstream, hended⟩ := fsuTurn_keepsOutside hstep
    exact .inr (.inr ⟨hparams, hstream, hended.trans⟩)
  | command cmd a b =>
    obtain ⟨hparams, hstream, hended⟩ := commandTurn_keepsOutside hstep
    exact .inr (.inr ⟨hparams, hstream, hended.trans⟩)
  | deliver bytes =>
    simp only [turnOf, deliverTurn] at hstep
    split at hstep <;> cases hstep
    · exact .inr (.inr ⟨rfl, rfl, id⟩)
    · next hlive => exact .inr (.inl ⟨bytes, rfl, by simpa using hlive, rfl, rfl⟩)
  | endOfStream =>
    cases hstep
    exact .inr (.inr ⟨rfl, rfl, fun _ => rfl⟩)
  | reset rebind =>
    cases hstep
    exact .inl ⟨rebind, rfl, rfl⟩

/-- Settles O58: of the turns only a reset writes the parameters, and one that binds none writes them
back. -/
theorem parametersChangeOnlyAtReset : Obligations.ParametersChangeOnlyAtReset := by
  intro s t hstep
  rw [step_eq_turnOf] at hstep
  rcases turnOf_outside_cases hstep with ⟨rebind, hdue, hparams⟩ | ⟨-, -, -, hparams, -⟩ |
    ⟨hparams, -, -⟩
  · cases rebind with
    | none => exact .inl hparams
    | some p => exact .inr ⟨p, _, inputs_eq_cons_of_headD hdue nofun, hparams⟩
  · exact .inl hparams
  · exact .inl hparams

/-- Settles O59: of the turns other than a reset only a delivery before the end mark writes the stream,
and it adds at the end. -/
theorem streamGrowsOnlyByProducer : Obligations.StreamGrowsOnlyByProducer := by
  intro s t hreset hstep
  rw [step_eq_turnOf] at hstep
  rcases turnOf_outside_cases hstep with ⟨rebind, hdue, -⟩ | ⟨bytes, hdue, hlive, -, hstream⟩ |
    ⟨-, hstream, hended⟩
  · exact absurd (inputs_eq_cons_of_headD hdue nofun) (hreset rebind _)
  · refine ⟨⟨bytes, hstream⟩, fun he => ?_, fun hdeliver => ?_⟩
    · exact absurd (hlive.symm.trans he) Bool.false_ne_true
    · exact absurd (inputs_eq_cons_of_headD hdue nofun) (hdeliver bytes _)
  · exact ⟨⟨[], hstream.trans (List.append_nil _).symm⟩, fun he => ⟨hstream, hended he⟩,
      fun _ => hstream⟩

/-! ## EXHAUSTED -/

theorem commandTurn_ack_of_exhausted {s : State} (hev : s.ev = .streamExhausted) (a b : Wide) :
    commandTurn 0x90000000 a b s = .next (s.presentOperands a b).succeed :=
  (commandTurn_of_decode (i := .ack) (by decide) a b s).trans
    (execAck_of_exhausted (s := s.presentOperands a b) hev)

/-- A pending STREAM_EXHAUSTED is not released by ACK, so no command is an exception here
(44_control.md R244). -/
theorem turnOf_holdsFrame_of_exhausted {i : Input} {s t : State} (hhold : s.st.isHold = true)
    (hev : s.ev = .streamExhausted) (hreset : ∀ rebind, i ≠ .reset rebind)
    (hstep : turnOf i s = .next t) : HoldsFrame s t := by
  by_cases hack : ∃ a b, i = .command 0x90000000 a b
  · obtain ⟨a, b, rfl⟩ := hack
    cases (commandTurn_ack_of_exhausted hev a b).symm.trans hstep
    rfl
  · obtain ⟨hsame, -⟩ :=
      turnOf_holdsFrame hhold hreset (fun a b hi => hack ⟨a, b, hi⟩) hstep
    exact hsame

theorem FsuInv.ended_of_exhausted {s : State} (h : FsuInv s) (hst : s.st = .exhausted) :
    s.ended = true := by
  have hcur := h.cursor
  simp only [CursorInPlace, hst] at hcur
  obtain ⟨hended, -⟩ := hcur
  exact hended

/-- Settles O53: no turn but a reset touches the event and the cursor, and the stream in EXHAUSTED has
ended, so it no longer grows. -/
theorem exhaustedIsTerminal : Obligations.ExhaustedIsTerminal := by
  intro s t hinv hst hreset hstep
  have hev : s.ev = .streamExhausted := by rw [hinv.event, hst]; rfl
  obtain ⟨-, hended, -⟩ := streamGrowsOnlyByProducer s t hreset hstep
  obtain ⟨hstream, -⟩ := hended (hinv.ended_of_exhausted hst)
  rw [step_eq_turnOf] at hstep
  have hsame := turnOf_holdsFrame_of_exhausted (s := s.setInputs s.inputs.tail)
    (by rw [State.setInputs_st, hst]; rfl) hev
    (fun rebind hdue => hreset rebind _ (inputs_eq_cons_of_headD hdue nofun)) hstep
  rw [hsame]
  exact ⟨hst, hev, hinv.exhausted hst, rfl, hstream⟩

end Sys2Proof.Machine
end

section
/-! The assembler's pseudo-instructions and the lines of the spec's examples (30_encoding.md R103,
R104). -/

namespace Sys2Proof.Machine

/-! ## An operand that fits its field is its field's value -/

theorem unsignedField_toNat {n : Nat} (v : BitVec n) : unsignedField n v.toNat = some v := by
  rw [unsignedField, if_pos v.isLt, BitVec.ofNat_toNat, BitVec.setWidth_eq]

theorem exponentField_toInt (e : BitVec 8) : exponentField e.toInt = some e := by
  rw [exponentField, if_pos ⟨BitVec.le_toInt e, Int.le_of_lt_add_one BitVec.toInt_lt⟩, wrapN,
    BitVec.ofInt_toInt]

theorem widthField_toNat_add_one (wm1 : BitVec 6) : widthField (wm1.toNat + 1) = some wm1 := by
  rw [widthField, if_pos (Nat.le_add_left 1 _), Nat.add_sub_cancel, unsignedField_toNat]

/-! ## The lines that pseudo-instructions expand to -/

theorem toInstr_extract (first last : BitVec 5) :
    (AsmLine.extract first.toNat last.toNat).toInstr = some (.extract first last) := by
  rw [AsmLine.toInstr, unsignedField_toNat, unsignedField_toNat]
  rfl

theorem toInstr_sext (tw : BitVec 7) (cw : Container) :
    (AsmLine.sext tw.toNat cw).toInstr = some (.sext tw cw) := by
  rw [AsmLine.toInstr, unsignedField_toNat]
  rfl

theorem toInstr_field (p : BitVec 9) (wm1 : BitVec 6) (signed : Bool) :
    (AsmLine.field p.toNat (wm1.toNat + 1) signed).toInstr =
      some (.field p wm1 signed false 0) := by
  rw [AsmLine.toInstr, unsignedField_toNat, widthField_toNat_add_one]
  rfl

theorem toInstr_fieldScaled (p : BitVec 9) (wm1 : BitVec 6) (signed : Bool) (e : BitVec 8) :
    (AsmLine.fieldScaled p.toNat (wm1.toNat + 1) signed e.toInt).toInstr =
      some (.field p wm1 signed true e) := by
  rw [AsmLine.toInstr, unsignedField_toNat, widthField_toNat_add_one, exponentField_toInt]
  rfl

/-- Settles O31: each line assembles as its expansion, whose operands fit their fields. -/
theorem pseudoInstructionsExpand : Obligations.PseudoInstructionsExpand :=
  ⟨fun p => toInstr_extract p p, rfl, fun tw => toInstr_sext tw .c32,
    fun tw => toInstr_sext tw .c64, toInstr_field, toInstr_fieldScaled, rfl, rfl, rfl⟩

/-- Settles O32, by reading each line of text. -/
theorem assemblerTextOfExamples : Obligations.AssemblerTextOfExamples :=
  ⟨rfl, rfl, rfl, rfl, rfl, rfl, rfl, rfl, rfl, rfl, rfl⟩

end Sys2Proof.Machine
end
